-- ==== Sys2Proof/Word.lean ====
section
/-! DEFINITION. The words of the part: its bytes and its 32-bit counts. -/

namespace Sys2Proof

/-- One byte of a cell or of a payload (R158). -/
abbrev Byte := BitVec 8

/-- The width of the slot clock, of the cycle number and of a counter (R19, 00_scope.md Conventions). -/
abbrev Word32 := BitVec 32

end Sys2Proof
end

