-- ==== Sys2Proof/Syntax.lean ====
section
/-! DEFINITION. The steps of the part, one constructor for each row of spec/opcode_table.json. -/

namespace Sys2Proof

/-- A station port, SP0 to SP3 (00_scope.md, Block overview). -/
abbrev PortId := Fin 4

/-- One row of the table: an event or a command that the part takes whole (95_what_each_step_holds.md).

An engine row (`badCommand` to `partReset`) is the management engine's taking of the oldest command of its own command
queue (R145), when that command is the row's: the sequence number and the parameters are that queue entry's payload
bytes, so the constructor carries no operand. -/
inductive Instr where
  /-- POWER_ON_RESET (R171): supply applied or falling out of range. -/
  | powerOnReset
  /-- POWER_ON_RESET_END (R171): the 2 ms of the power-on reset are over; the strap pins read `straps` (NA5..NA0) and
  `rate` (TRS). -/
  | powerOnResetEnd (straps : BitVec 6) (rate : Bool)
  /-- PIN_RESET (R171): RESET_N has been low for `lowNs` nanoseconds. -/
  | pinReset (lowNs : Nat)
  /-- PIN_RESET_END (R171): RESET_N is released; the strap pins read `straps` and `rate`. -/
  | pinResetEnd (straps : BitVec 6) (rate : Bool)
  /-- MANAGEMENT_RESET (R156): the PART_RESET response has been transmitted in full. -/
  | managementReset
  /-- SLOT_START (R21): the next slot of the trunk begins. -/
  | slotStart
  /-- CYCLE_BOUNDARY (R25): the slot start at which a cycle boundary is taken and its notice posted; after a SLOT_START
  that took the boundary, the posting alone (R167, log entries 4 and 23). -/
  | cycleBoundary
  /-- STATION_CELL_RECEIVE (R117): the reception of a cell on a station link ends; `bytes` are what was received. -/
  | stationCellReceive (port : PortId) (bytes : List Byte)
  /-- STATION_SIGNAL_GAINED (R114): line signal appears on a station link. -/
  | stationSignalGained (port : PortId)
  /-- STATION_SIGNAL_LOST (R114): line signal is lost on a station link. -/
  | stationSignalLost (port : PortId)
  /-- STATION_TRANSMIT (R120): a transmit opportunity of a station port. -/
  | stationTransmit (port : PortId)
  /-- UPSTREAM_CLASSIFICATION (R80): the classifier takes the oldest unclassified data cell of an arrival port. -/
  | upstreamClassification (port : PortId)
  /-- CELL_ADMISSION (R64): the queue manager takes the oldest offer of a port. -/
  | cellAdmission (port : PortId)
  /-- TRUNK_CELL_RECEIVE (R126): the reception of a cell on the trunk ends. -/
  | trunkCellReceive (bytes : List Byte)
  /-- TRUNK_SIGNAL_CHANGE (R127): the trunk line signal is now present (`up`) or absent. -/
  | trunkSignalChange (up : Bool)
  /-- DOWNSTREAM_FORWARD (R128): the forwarder takes the oldest good trunk cell. -/
  | downstreamForward
  /-- BAD_COMMAND (R146, R147): a short command, or one whose code is none of the 23. -/
  | badCommand
  /-- ECHO, code 01h (R153). -/
  | echo
  /-- IDENTIFY, code 02h (R153). -/
  | identify
  /-- STATUS, code 03h (R154). -/
  | status
  /-- PLAN_WRITE, code 10h (R14). -/
  | planWrite
  /-- PLAN_LENGTH, code 11h (R15). -/
  | planLength
  /-- PLAN_READ, code 12h (R16). -/
  | planRead
  /-- PLAN_COMMIT, code 13h (R32). -/
  | planCommit
  /-- PLAN_WITHDRAW, code 14h (R35). -/
  | planWithdraw
  /-- SCHED_START, code 15h (R29). -/
  | schedStart
  /-- SCHED_STOP, code 16h (R30). -/
  | schedStop
  /-- EXCURSION_END, code 17h (R38). -/
  | excursionEnd
  /-- FLOW_WRITE, code 20h (R87). -/
  | flowWrite
  /-- FLOW_READ, code 21h (R92). -/
  | flowRead
  /-- FLOW_CLEAR, code 22h (R90). -/
  | flowClear
  /-- FLOW_REARM, code 23h (R108). -/
  | flowRearm
  /-- CLASS_SET, code 30h (R71). -/
  | classSet
  /-- CLASS_READ, code 31h (R73). -/
  | classRead
  /-- CLASS_FLUSH, code 32h (R69). -/
  | classFlush
  /-- RELAY_SET, code 33h (R75). -/
  | relaySet
  /-- PORT_SET, code 40h (R122). -/
  | portSet
  /-- PORT_READ, code 41h (R124, R155). -/
  | portRead
  /-- NOTICE_SET, code 50h (R163). -/
  | noticeSet
  /-- PART_RESET, code 7Fh (R156). -/
  | partReset
  deriving DecidableEq, Repr

end Sys2Proof
end

