-- ==== Sys2Proof/WellFormed.lean ====
section
/-! DEFINITION. Which rows are well formed: what a receiver can present as one received cell. -/

namespace Sys2Proof

/-- What a link delivers as one cell: at least one byte, and no more than the 64 of R158. Fewer than 64 bytes are a
cell that was cut short (R126, R172). -/
def receivable (bytes : List Byte) : Bool :=
  !bytes.isEmpty && decide (bytes.length ≤ 64)

/-- Every row but the two receptions is well formed for every operand its type admits. -/
def Instr.wellFormed : Instr → Bool
  | .stationCellReceive _ bytes => receivable bytes
  | .trunkCellReceive bytes => receivable bytes
  | .powerOnReset | .powerOnResetEnd _ _ | .pinReset _ | .pinResetEnd _ _ | .managementReset | .slotStart
  | .cycleBoundary | .stationSignalGained _ | .stationSignalLost _ | .stationTransmit _ | .upstreamClassification _
  | .cellAdmission _ | .trunkSignalChange _ | .downstreamForward | .badCommand | .echo | .identify | .status
  | .planWrite | .planLength | .planRead | .planCommit | .planWithdraw | .schedStart | .schedStop | .excursionEnd
  | .flowWrite | .flowRead | .flowClear | .flowRearm | .classSet | .classRead | .classFlush | .relaySet | .portSet
  | .portRead | .noticeSet | .partReset => true

end Sys2Proof
end

