-- ==== Sys2Proof/Decode.lean ====
section
/-! DEFINITION. Words of the table's bits. spec/opcode_table.json gives no row any bits ("n_rows_with_fixed": 0 in
98_reader.md), so no word spells a row (log entry 16). -/

namespace Sys2Proof

/-- The row that a word of the table's bits spells: none, since the table gives no bits. -/
def decodeTableWord (_nbits _w : Nat) : Option Instr :=
  none

end Sys2Proof
end

