-- ==== Sys2Proof/Config.lean ====
section
/-! DEFINITION. What the part fixes: the capacities of 00_scope.md (Principal figures) and the identity of R153.
The manual leaves no result of any row open, so there is no free value here. -/

namespace Sys2Proof.Config

/-- R130, R143: the command queue holds up to 4 commands. -/
@[simp] def commandPlaces : Nat := 4

/-- R144: the response queue holds up to 8 response records. -/
@[simp] def responsePlaces : Nat := 8

/-- R164: the notice queue holds up to 16 notices. -/
@[simp] def noticePlaces : Nat := 16

/-- R119: a station egress FIFO holds up to 32 cells. -/
@[simp] def egressPlaces : Nat := 32

/-- R59: the buffer holds 512 cells. -/
@[simp] def bufferCells : Nat := 512

/-- R7: the shortest and the longest valid cycle. -/
@[simp] def shortestCycle : Nat := 8

/-- R7: the longest valid cycle. -/
@[simp] def longestCycle : Nat := 16384

/-- R7: the longest valid span of one window entry. -/
@[simp] def longestSpan : Nat := 1024

/-- R1: a bank has 64 entry places. -/
@[simp] def entryPlaces : Nat := 64

/-- R152, R153: ECHO returns at most 40 parameter bytes. -/
@[simp] def echoBytes : Nat := 40

/-- R14, R16: PLAN_WRITE and PLAN_READ carry at most 5 entries. -/
@[simp] def entriesPerCommand : Nat := 5

/-- R171, 11.7: a low pulse on RESET_N shorter than 10 µs (10 000 ns) is ignored. -/
@[simp] def shortestResetLowNs : Nat := 10000

/-- R153: the vendor code 0C5Dh. -/
def vendorCode : BitVec 16 := 0x0C5D#16

/-- R153: the part code 0024h. -/
def partCode : BitVec 16 := 0x0024#16

/-- R78, R112: the flow ID of COMMAND, RESPONSE and NOTICE cells. -/
def managementFlow : BitVec 12 := 4095#12

end Sys2Proof.Config
end

