-- ==== Sys2Proof/Machine/State.lean ====
section
/-! DEFINITION. The state of the part as plain data, block by block (00_scope.md, Block overview), with the values of
every reset. -/

namespace Sys2Proof.Machine

/-- Why the part stops with a fault: never. It has no fault and no exception entry (INVENTORY.md, Faults), so the type
has no constructor, which is safe: no run ends here (log entry 17). -/
inductive Fault where
  deriving DecidableEq, Repr

/-- Why a row has no meaning. -/
inductive Refusal where
  /-- Raised by `exec`'s arm of a row that is not modelled yet, and by nothing else; no arm is, so no run ends here
  (safe). -/
  | notModelled (mnemonic : String)
  deriving DecidableEq, Repr

/-! ### Cells (R110) -/

/-- R110: the five kinds of a cell. -/
inductive Kind where
  | idle | data | command | response | notice
  deriving DecidableEq, Repr

/-- R158: the 52 payload bytes of a cell. -/
abbrev Payload := Vector Byte 52

/-- R110: a cell without its two check fields, which every port computes afresh (R112). -/
structure Cell where
  kind : Kind
  flowId : BitVec 12
  demoted : Bool
  /-- the payload length -/
  len : Byte
  payload : Payload
  deriving DecidableEq, Repr

/-- R59: what a buffer cell keeps of the cell in it: neither the checks nor the received demoted flag. -/
structure BufCell where
  kind : Kind
  flowId : BitVec 12
  len : Byte
  payload : Payload
  deriving DecidableEq, Repr

/-- What a transmit pair carries (R112, R120, R125, R172). -/
inductive LinkOut where
  /-- nothing: the far end sees loss of signal -/
  | silent
  /-- the bytes of the cell of this slot -/
  | sending (wire : List Byte)
  /-- a cell whose transmission was cut short; nothing follows it until the next opportunity -/
  | cut (wire : List Byte)
  deriving DecidableEq, Repr

/-! ### Resets and pins (R170, R171) -/

/-- R171: whether a power-on reset or a pin reset is in progress. `powerOnHeld` is a power-on reset whose 2 ms are over
and that the reset pin, still held low, prolongs. -/
inductive Phase where
  | running | powerOnReset | powerOnHeld | pinReset
  deriving DecidableEq, Repr

/-- R153, R171: the cause of a reset. -/
inductive ResetCause where
  | powerOn | pin | management
  deriving DecidableEq, Repr

/-- 11.7: the levels of the input pins that the rules read. -/
structure Pins where
  /-- RESET_N is high (released) -/
  resetN : Bool
  /-- NA5..NA0 -/
  straps : BitVec 6
  /-- TRS is high -/
  rate : Bool
  /-- line signal on SRX0 to SRX3 -/
  stationLine : Vector Bool 4
  /-- line signal on TRX -/
  trunkLine : Bool
  deriving DecidableEq, Repr

/-! ### The cycle scheduler CS (R1, R10, R19) -/

/-- R10: the two plan banks. -/
inductive BankId where
  | a | b
  deriving DecidableEq, Repr

/-- R11: the states of a bank. -/
inductive BankState where
  | free | armed | active | held
  deriving DecidableEq, Repr

/-- R1: one window entry, with the stored capacity of each field. -/
structure WindowEntry where
  span : BitVec 16
  openLen : BitVec 16
  owner : Byte
  alignment : Byte
  reclaim : Bool
  deriving DecidableEq, Repr

/-- R10: one plan bank. -/
structure Bank where
  entries : Vector WindowEntry 64
  /-- the entry count -/
  count : Nat
  state : BankState
  deriving DecidableEq, Repr

/-- R28, R32: the mode of a commit. -/
inductive CommitMode where
  | permanent | excursion
  deriving DecidableEq, Repr

/-- R33: the commit record of the ARMED bank. -/
structure CommitRecord where
  mode : CommitMode
  /-- the repeat value N -/
  repeatN : Byte
  deriving DecidableEq, Repr

/-- R19: the scheduler's modes of operation. -/
inductive SchedState where
  | halted | running | excursion | stopping
  deriving DecidableEq, Repr

/-- R19: the cycle scheduler with its two banks. -/
structure Sched where
  state : SchedState
  active : Option BankId
  position : Nat
  startPending : Bool
  cycle : Word32
  excursionLeft : Byte
  endRequested : Bool
  stopFromExcursion : Bool
  commit : Option CommitRecord
  slotClock : Word32
  bankA : Bank
  bankB : Bank
  deriving DecidableEq, Repr

/-! ### The queue manager QM (R59 to R62, R74) -/

/-- A traffic class, 0 to 7. -/
abbrev ClassId := Fin 8

/-- The index of a flow record, 0 to 255. -/
abbrev FlowIndex := Fin 256

/-- R60: a descriptor; `flow` is none when the flow flag is clear. -/
structure Descriptor where
  index : Fin 512
  flow : Option FlowIndex
  demoted : Bool
  deriving DecidableEq, Repr

/-- R60, R61, R74: one class: its queue, its parameters, its age and its counters. -/
structure ClassQueue where
  queue : List Descriptor
  limit : Nat
  priority : Fin 8
  agingLimit : Byte
  eligible : Bool
  age : Byte
  enqueued : Word32
  dropped : Word32
  transmitted : Word32
  flushed : Word32
  deriving DecidableEq, Repr

/-- R59 to R62: the queue manager. -/
structure QueueManager where
  buffer : Vector BufCell 512
  /-- the free list -/
  free : List (Fin 512)
  classes : Vector ClassQueue 8
  relayClass : ClassId
  deriving DecidableEq, Repr

/-! ### The flow table FC and the arrival monitor AM (R77, R95) -/

/-- R77: what is done with a non-conforming cell. -/
inductive Policing where
  | measure | demote | discard
  deriving DecidableEq, Repr

/-- R95: the measurement record of a flow. -/
structure Measurement where
  seen : Bool
  lastArrival : Word32
  currentBurst : BitVec 16
  lastBurst : BitVec 16
  lastGap : BitVec 24
  smallestGap : BitVec 24
  largestBurst : BitVec 16
  conforming : Word32
  nonConforming : Word32
  bufferDrops : Word32
  /-- notify armed -/
  armed : Bool
  deriving DecidableEq, Repr

/-- R77: the fields of a flow record that FLOW_WRITE carries. -/
structure FlowTerms where
  flowId : BitVec 12
  upstream : Bool
  sourcePort : PortId
  cls : ClassId
  action : Policing
  demoteClass : ClassId
  joinGap : Byte
  burstLimit : BitVec 16
  minGap : BitVec 24
  notifyEnable : Bool
  /-- the downstream port mask; bit n stands for station port n -/
  mask : BitVec 4
  deriving DecidableEq, Repr

/-- R77: one flow record with its measurement record. -/
structure FlowRecord where
  valid : Bool
  terms : FlowTerms
  meas : Measurement
  deriving DecidableEq, Repr

/-! ### The station ports SP0 to SP3 (R113, R124) -/

/-- R114: the states of a station port. -/
inductive PortState where
  | disabled | waiting | active | quarantined
  deriving DecidableEq, Repr

/-- R82: the unknown-flow policy of a port. -/
inductive UnknownPolicy where
  | discard | forward
  deriving DecidableEq, Repr

/-- R124: the counters of a station port. -/
structure PortCounters where
  received : Word32
  headerErrors : Word32
  cellErrors : Word32
  kindErrors : Word32
  commandsDropped : Word32
  quarantineDiscards : Word32
  misrouted : Word32
  unknownFlow : Word32
  egressTransmitted : Word32
  egressDropped : Word32
  flushed : Word32
  deriving DecidableEq, Repr

/-- R63: the class an offered cell is for; a relayed cell goes to the relay class as it stands when it is taken. -/
inductive Target where
  | named (k : ClassId)
  | relay
  deriving DecidableEq, Repr

/-- R63: a cell offered to the queue manager. -/
structure Offer where
  cell : BufCell
  target : Target
  flow : Option FlowIndex
  demoted : Bool
  deriving DecidableEq, Repr

/-- R63, R80, R117: a cell that a station port handed on and that its taker has not taken yet. -/
inductive HandOff where
  /-- a data cell for the flow classifier, with its arrival slot -/
  | classify (cell : BufCell) (slot : Word32)
  /-- an offer for the queue manager -/
  | offer (o : Offer)
  deriving DecidableEq, Repr

/-- R113: a station port. -/
structure Port where
  state : PortState
  /-- the signal flag -/
  signal : Bool
  /-- the error streak -/
  streak : Byte
  enable : Bool
  /-- the quarantine threshold -/
  threshold : Byte
  relay : Bool
  policy : UnknownPolicy
  unknownClass : ClassId
  /-- the egress FIFO, oldest first -/
  egress : List Cell
  counters : PortCounters
  /-- the cells handed on and not yet taken, in the order received -/
  handoff : List HandOff
  /-- STX: what the link carries -/
  tx : LinkOut
  deriving DecidableEq, Repr

/-! ### The trunk port TP and the downstream forwarder DF (R127, R138) -/

/-- R127: the trunk port. -/
structure Trunk where
  /-- the trunk signal state is UP -/
  signal : Bool
  received : Word32
  headerErrors : Word32
  cellErrors : Word32
  kindErrors : Word32
  transmitted : Word32
  idleTransmitted : Word32
  signalLosses : Word32
  /-- good cells the forwarder has not taken yet, in the order received -/
  handoff : List Cell
  /-- TTX: what the trunk carries -/
  tx : LinkOut
  deriving DecidableEq, Repr

/-- R138: the counters of the downstream forwarder. -/
structure Forwarder where
  commandsTaken : Word32
  commandsRelayed : Word32
  commandsUnrelayable : Word32
  dataForwarded : Word32
  dataWithoutPorts : Word32
  dataUnmatched : Word32
  misdirected : Word32
  deriving DecidableEq, Repr

/-! ### The management engine ME (R140 to R156) -/

/-- R152: the 23 commands. -/
inductive CommandCode where
  | echo | identify | status
  | planWrite | planLength | planRead | planCommit | planWithdraw | schedStart | schedStop | excursionEnd
  | flowWrite | flowRead | flowClear | flowRearm
  | classSet | classRead | classFlush | relaySet
  | portSet | portRead
  | noticeSet
  | partReset
  deriving DecidableEq, Repr

/-- R151: the status codes. -/
inductive Status where
  | ok | badCommand | badParam | bankBusy | planInvalid | notRunning | alreadyRunning | tooLate | nothingArmed
  | notInExcursion | duplicateFlow | reservedFlow | notValid | limitBelowOccupancy
  deriving DecidableEq, Repr

/-- R143: an entry of the command queue: the command payload and its payload length. -/
structure Command where
  payload : Payload
  len : Byte
  deriving DecidableEq, Repr

/-- R142: a response record. -/
structure Response where
  node : Byte
  seq : Byte
  code : Byte
  status : Status
  detail : Byte
  replayed : Bool
  cycle : Word32
  data : List Byte
  deriving DecidableEq, Repr

/-- R149: the contents of a valid last-response cache. -/
structure CacheEntry where
  seq : Byte
  record : Response
  deriving DecidableEq, Repr

/-- R145, R156: whether the engine takes commands. -/
inductive EngineRun where
  /-- the engine takes commands -/
  | taking
  /-- PART_RESET has been answered; its response waits in the response queue -/
  | resetAnswered
  /-- the PART_RESET response is the cell of the present slot; the management reset follows the slot -/
  | resetSent
  deriving DecidableEq, Repr

/-- R140, R143, R144, R149, R153, R156: the management engine. -/
structure Engine where
  nodeAddr : Byte
  /-- the sampled node-address strap value -/
  straps : BitVec 6
  /-- the sampled trunk-rate strap value -/
  rate : Bool
  cause : ResetCause
  commands : List Command
  responses : List Response
  /-- none while the cache is invalid -/
  cache : Option CacheEntry
  commandDrops : BitVec 16
  run : EngineRun
  deriving DecidableEq, Repr

/-! ### The notice unit NU (R161 to R168) -/

/-- R103: the reason of a non-conforming arrival. -/
inductive Reason where
  | burst | gap
  deriving DecidableEq, Repr

/-- R27: the cause of EXCURSION_DONE. -/
inductive ExcursionCause where
  | count | requested
  deriving DecidableEq, Repr

/-- R115: the cause of PORT_STATE. -/
inductive PortCause where
  | command | signalGained | signalLost | errors
  deriving DecidableEq, Repr

/-- 10.1: a notice's kind with its kind fields. -/
inductive NoticeBody where
  | resetDone (cause : ResetCause)
  | planSwapped (bank : BankId) (mode : CommitMode) (cycle : Word32)
  | excursionDone (bank : BankId) (cause : ExcursionCause)
  | schedHalted (lastCycle : Word32) (abandoned excursionCut : Bool)
  | flowViolation (index : FlowIndex) (flowId : BitVec 12) (reason : Reason) (value : Word32)
  | portState (port : PortId) (state : PortState) (cause : PortCause)
  | trunkState (up : Bool)
  deriving DecidableEq, Repr

/-- R161: a queued notice. -/
structure Notice where
  node : Byte
  seq : Byte
  lost : Bool
  /-- the slot clock at posting -/
  stamp : Word32
  body : NoticeBody
  deriving DecidableEq, Repr

/-- R162 to R166: the notice unit. -/
structure NoticeUnit where
  queue : List Notice
  /-- the enable mask; bit n is the flag of the kind of code n -/
  mask : BitVec 7
  lost : Bool
  /-- the sequence number of the next notice -/
  seq : Byte
  /-- R162, R167: the posting that a cycle boundary has handed over and the notice unit has not taken yet (log entry 23) -/
  handed : Option NoticeBody
  deriving DecidableEq, Repr

/-! ### The whole part -/

/-- The part, and the rows waiting to be presented to it (`pending`, the model's own field, log entry 2). -/
structure State where
  phase : Phase
  pins : Pins
  sched : Sched
  qm : QueueManager
  flows : Vector FlowRecord 256
  ports : Vector Port 4
  trunk : Trunk
  df : Forwarder
  me : Engine
  nu : NoticeUnit
  pending : List Instr
  deriving DecidableEq, Repr

/-! ### The values after a reset -/

/-- A payload of zero bytes (R112). -/
def Payload.zero : Payload :=
  Vector.replicate 52 0#8

/-- R10: an entry place after any reset. -/
def WindowEntry.reset : WindowEntry :=
  { span := 0#16, openLen := 0#16, owner := 0#8, alignment := 0#8, reclaim := false }

/-- R10: a bank after any reset. -/
def Bank.reset : Bank :=
  { entries := Vector.replicate 64 WindowEntry.reset, count := 0, state := .free }

/-- R20: the scheduler after any reset. -/
def Sched.reset : Sched :=
  { state := .halted, active := none, position := 0, startPending := false, cycle := 0#32, excursionLeft := 0#8,
    endRequested := false, stopFromExcursion := false, commit := none, slotClock := 0#32,
    bankA := Bank.reset, bankB := Bank.reset }

/-- The contents of a free buffer cell after a reset. DESIGN CHOICE (log entry 8): no rule gives them and nothing
reads them. -/
def BufCell.reset : BufCell :=
  { kind := .idle, flowId := 0#12, len := 0#8, payload := Payload.zero }

/-- R61, R62: a class after any reset. -/
def ClassQueue.reset : ClassQueue :=
  { queue := [], limit := 64, priority := 0, agingLimit := 0#8, eligible := true, age := 0#8,
    enqueued := 0#32, dropped := 0#32, transmitted := 0#32, flushed := 0#32 }

/-- R62: the queue manager after any reset. The order of the free list is a DESIGN CHOICE (log entry 7). -/
def QueueManager.reset : QueueManager :=
  { buffer := Vector.replicate 512 BufCell.reset, free := List.finRange 512,
    classes := Vector.replicate 8 ClassQueue.reset, relayClass := 0 }

/-- R96, second column: a measurement record after any reset. -/
def Measurement.reset : Measurement :=
  { seen := false, lastArrival := 0#32, currentBurst := 0#16, lastBurst := 0#16, lastGap := 0#24,
    smallestGap := 16777215#24, largestBurst := 0#16, conforming := 0#32, nonConforming := 0#32,
    bufferDrops := 0#32, armed := false }

/-- R79: the fields of a flow record after any reset. -/
def FlowTerms.reset : FlowTerms :=
  { flowId := 0#12, upstream := false, sourcePort := 0, cls := 0, action := .measure, demoteClass := 0,
    joinGap := 0#8, burstLimit := 0#16, minGap := 0#24, notifyEnable := false, mask := 0#4 }

/-- R79: a flow record after any reset. -/
def FlowRecord.reset : FlowRecord :=
  { valid := false, terms := FlowTerms.reset, meas := Measurement.reset }

/-- R113: the port counters after any reset. -/
def PortCounters.reset : PortCounters :=
  { received := 0#32, headerErrors := 0#32, cellErrors := 0#32, kindErrors := 0#32, commandsDropped := 0#32,
    quarantineDiscards := 0#32, misrouted := 0#32, unknownFlow := 0#32, egressTransmitted := 0#32,
    egressDropped := 0#32, flushed := 0#32 }

/-- R113: a station port after any reset whose line has signal exactly when `line`. -/
def Port.reset (line : Bool) : Port :=
  { state := .disabled, signal := line, streak := 0#8, enable := false, threshold := 8#8, relay := false,
    policy := .discard, unknownClass := 7, egress := [], counters := PortCounters.reset, handoff := [],
    tx := .silent }

/-- R127: the trunk port after any reset whose line has signal exactly when `line`. -/
def Trunk.reset (line : Bool) : Trunk :=
  { signal := line, received := 0#32, headerErrors := 0#32, cellErrors := 0#32, kindErrors := 0#32,
    transmitted := 0#32, idleTransmitted := 0#32, signalLosses := 0#32, handoff := [], tx := .silent }

/-- R138: the forwarder after any reset. -/
def Forwarder.reset : Forwarder :=
  { commandsTaken := 0#32, commandsRelayed := 0#32, commandsUnrelayable := 0#32, dataForwarded := 0#32,
    dataWithoutPorts := 0#32, dataUnmatched := 0#32, misdirected := 0#32 }

/-- R143, R144, R149: the engine after any reset, with the node address, the strap values and the cause that R140 and
R153 give. -/
def Engine.reset (nodeAddr : Byte) (straps : BitVec 6) (rate : Bool) (cause : ResetCause) : Engine :=
  { nodeAddr := nodeAddr, straps := straps, rate := rate, cause := cause, commands := [], responses := [],
    cache := none, commandDrops := 0#16, run := .taking }

/-- R168: the RESET_DONE notice. -/
def Notice.resetDone (node : Byte) (cause : ResetCause) : Notice :=
  { node := node, seq := 0#8, lost := false, stamp := 0#32, body := .resetDone cause }

/-- R168: the notice unit at the end of any reset. -/
def NoticeUnit.reset (node : Byte) (cause : ResetCause) : NoticeUnit :=
  { queue := [Notice.resetDone node cause], mask := 0x7F#7, lost := false, seq := 1#8, handed := none }

/-- The pins at State.reset. DESIGN CHOICE (log entry 1): RESET_N released, every strap low, no line signal. -/
def Pins.reset : Pins :=
  { resetN := true, straps := 0#6, rate := false, stationLine := Vector.replicate 4 false, trunkLine := false }

/-- The part at the end of a power-on reset (R173), with the pins of `Pins.reset`: strap value 0 gives node address 0
(R140), and the cause is POWER_ON. -/
def State.reset : State :=
  { phase := .running, pins := Pins.reset, sched := Sched.reset, qm := QueueManager.reset,
    flows := Vector.replicate 256 FlowRecord.reset, ports := Vector.replicate 4 (Port.reset false),
    trunk := Trunk.reset false, df := Forwarder.reset, me := Engine.reset 0#8 0#6 false .powerOn,
    nu := NoticeUnit.reset 0#8 .powerOn, pending := [] }

end Sys2Proof.Machine
end

