-- ==== Sys2Proof/Machine/Wire.lean ====
section
/-! DEFINITION. The wire formats of 9.9 (R158, R159): byte order, the two checks, the 64 bytes of a cell, the judging of
a received cell (R111), and the payloads of responses and notices. -/

namespace Sys2Proof.Machine

/-! ### Byte order (R158: most significant byte first) -/

/-- A flag as a byte. R159 gives 0 and 1 for the lost, the replayed and the reclaim flag and for DOWN and UP in
TRUNK_STATE, R153 for the trunk-rate strap, and R152 for the parameters. The spec gives no byte for a flag or for the
trunk signal state in the data of a response (R160), nor for the two flags of SCHED_HALTED; there 1 for set and for UP
and 0 for clear and for DOWN are the model's choice (DESIGN CHOICE, log entry 24). -/
def flagByte (b : Bool) : Byte :=
  if b then 1#8 else 0#8

/-- Two bytes, most significant first. -/
def be16 (x : BitVec 16) : List Byte :=
  [x.extractLsb' 8 8, x.extractLsb' 0 8]

/-- Three bytes, most significant first. -/
def be24 (x : BitVec 24) : List Byte :=
  [x.extractLsb' 16 8, x.extractLsb' 8 8, x.extractLsb' 0 8]

/-- Four bytes, most significant first. -/
def be32 (x : Word32) : List Byte :=
  [x.extractLsb' 24 8, x.extractLsb' 16 8, x.extractLsb' 8 8, x.extractLsb' 0 8]

/-- The 16-bit value of the bytes at offset `i`. -/
def read16 (bytes : List Byte) (i : Nat) : BitVec 16 :=
  bytes.getD i 0#8 ++ bytes.getD (i + 1) 0#8

/-- The 24-bit value of the bytes at offset `i`. -/
def read24 (bytes : List Byte) (i : Nat) : BitVec 24 :=
  bytes.getD i 0#8 ++ bytes.getD (i + 1) 0#8 ++ bytes.getD (i + 2) 0#8

/-- The 32-bit value of the bytes at offset `i`. -/
def read32 (bytes : List Byte) (i : Nat) : Word32 :=
  bytes.getD i 0#8 ++ bytes.getD (i + 1) 0#8 ++ bytes.getD (i + 2) 0#8 ++ bytes.getD (i + 3) 0#8

/-! ### The two checks (R158) -/

/-- One bit of a division by the polynomial `poly`, most significant bit first. -/
def crcShift {w : Nat} (poly reg : BitVec w) : BitVec w :=
  if reg.msb then (reg <<< 1) ^^^ poly else reg <<< 1

/-- One byte of the division: the eight bits of `byte` enter at the top of the register. PRESUMED (log entry 20): the
register form, in which the message is divided after being shifted up by the register's width. -/
def crcByte {w : Nat} (poly reg : BitVec w) (byte : Byte) : BitVec w :=
  (crcShift poly)^[8] (reg ^^^ (byte.setWidth w <<< (w - 8)))

/-- R158: the header check over the seven header bytes: x^8 + x^2 + x + 1, register starting at 0, not inverted. -/
def headerCheck (bytes : List Byte) : Byte :=
  bytes.foldl (crcByte 0x07#8) 0x00#8

/-- R158: the cell check over bytes 0 to 59: 04C11DB7h, register starting at FFFFFFFFh, result inverted. -/
def cellCheck (bytes : List Byte) : Word32 :=
  ~~~ bytes.foldl (crcByte 0x04C11DB7#32) 0xFFFFFFFF#32

/-! ### Codes -/

/-- R158: the kind codes. -/
def Kind.code : Kind → Byte
  | .idle => 0#8 | .data => 1#8 | .command => 2#8 | .response => 3#8 | .notice => 4#8

/-- R158: codes 5 to 255 are bad codes. -/
def Kind.ofCode (b : Byte) : Option Kind :=
  [Kind.idle, .data, .command, .response, .notice].find? (fun k => k.code == b)

/-- R151: the status codes. -/
def Status.code : Status → Byte
  | .ok => 0#8 | .badCommand => 1#8 | .badParam => 2#8 | .bankBusy => 3#8 | .planInvalid => 4#8
  | .notRunning => 5#8 | .alreadyRunning => 6#8 | .tooLate => 7#8 | .nothingArmed => 8#8 | .notInExcursion => 9#8
  | .duplicateFlow => 10#8 | .reservedFlow => 11#8 | .notValid => 12#8 | .limitBelowOccupancy => 13#8

/-- R28: bank A is coded 0 and bank B 1. -/
def BankId.code : BankId → Byte
  | .a => 0#8 | .b => 1#8

/-- R40: a bank, or 255 for none. -/
def bankOrNone : Option BankId → Byte
  | some bank => bank.code
  | none => 255#8

/-- R18: the bank-state codes. -/
def BankState.code : BankState → Byte
  | .free => 0#8 | .armed => 1#8 | .active => 2#8 | .held => 3#8

/-- R28: the scheduler state codes. -/
def SchedState.code : SchedState → Byte
  | .halted => 0#8 | .running => 1#8 | .excursion => 2#8 | .stopping => 3#8

/-- R28: the commit mode codes. -/
def CommitMode.code : CommitMode → Byte
  | .permanent => 0#8 | .excursion => 1#8

/-- R153: the reset cause codes. -/
def ResetCause.code : ResetCause → Byte
  | .powerOn => 0#8 | .pin => 1#8 | .management => 2#8

/-- R115: the port state codes. -/
def PortState.code : PortState → Byte
  | .disabled => 0#8 | .waiting => 1#8 | .active => 2#8 | .quarantined => 3#8

/-- R115: the PORT_STATE cause codes. -/
def PortCause.code : PortCause → Byte
  | .command => 0#8 | .signalGained => 1#8 | .signalLost => 2#8 | .errors => 3#8

/-- R103: the reason codes. -/
def Reason.code : Reason → Byte
  | .burst => 1#8 | .gap => 2#8

/-- R159: the EXCURSION_DONE cause codes. -/
def ExcursionCause.code : ExcursionCause → Byte
  | .count => 0#8 | .requested => 1#8

/-- R77: the policing action codes. -/
def Policing.code : Policing → Byte
  | .measure => 0#8 | .demote => 1#8 | .discard => 2#8

/-- R122: the unknown-flow policy codes. -/
def UnknownPolicy.code : UnknownPolicy → Byte
  | .discard => 0#8 | .forward => 1#8

/-- R159: the notice kind codes. -/
def NoticeBody.kindCode : NoticeBody → Nat
  | .resetDone _ => 0
  | .planSwapped _ _ _ => 1
  | .excursionDone _ _ => 2
  | .schedHalted _ _ _ => 3
  | .flowViolation _ _ _ _ => 4
  | .portState _ _ _ => 5
  | .trunkState _ => 6

/-- A class, a port or a flow index as a byte. -/
def indexByte {n : Nat} (i : Fin n) : Byte :=
  BitVec.ofNat 8 i.val

/-! ### The cell on the wire (R158) -/

/-- The payload whose first bytes are `bytes` and whose other bytes are 0 (R158: 0 in cells the part forms). -/
def Payload.ofBytes (bytes : List Byte) : Payload :=
  ⟨⟨(bytes ++ List.replicate 52 0#8).take 52⟩, by simp⟩

/-- R158: cell bytes 0 to 6. -/
def Cell.headerBytes (c : Cell) : List Byte :=
  [c.kind.code, BitVec.ofBool c.demoted ++ 0#3 ++ c.flowId.extractLsb' 8 4, c.flowId.extractLsb' 0 8, c.len,
    0#8, 0#8, 0#8]

/-- R158: cell bytes 0 to 59, with a fresh header check (R112). -/
def Cell.checkedBytes (c : Cell) : List Byte :=
  c.headerBytes ++ [headerCheck c.headerBytes] ++ c.payload.toList

/-- R112, R158: the 64 bytes of a cell as a port transmits it, both checks computed afresh. -/
def Cell.wire (c : Cell) : List Byte :=
  c.checkedBytes ++ be32 (cellCheck c.checkedBytes)

/-- R112: the idle cell. -/
def Cell.idle : Cell :=
  { kind := .idle, flowId := 0#12, demoted := false, len := 0#8, payload := Payload.zero }

/-- R59: what the buffer keeps of a cell. -/
def Cell.kept (c : Cell) : BufCell :=
  { kind := c.kind, flowId := c.flowId, len := c.len, payload := c.payload }

/-- R112: a class cell leaves with its descriptor's demoted flag. -/
def BufCell.withFlag (c : BufCell) (demoted : Bool) : Cell :=
  { kind := c.kind, flowId := c.flowId, demoted := demoted, len := c.len, payload := c.payload }

/-! ### Judging a received cell (R111) -/

/-- R111: the three checks, in their order. -/
inductive Check where
  | header | cell | kind
  deriving DecidableEq, Repr

/-- R111: a bad cell with the first check it fails, or a good cell. -/
inductive Judged where
  | bad (check : Check)
  | good (c : Cell)
  deriving DecidableEq, Repr

/-- R110: the payload length is 0 for IDLE and 1 to 52 for the other kinds. -/
def lengthAllowed (k : Kind) (len : Byte) : Bool :=
  match k with
  | .idle => len == 0#8
  | .data | .command | .response | .notice => decide (1 ≤ len.toNat ∧ len.toNat ≤ 52)

/-- The cell that 64 received bytes hold, given its kind (R158). -/
def cellOfBytes (k : Kind) (bytes : List Byte) : Cell :=
  { kind := k, flowId := ((bytes.getD 1 0#8).extractLsb' 0 4 ++ bytes.getD 2 0#8),
    demoted := (bytes.getD 1 0#8).getLsbD 7, len := bytes.getD 3 0#8, payload := Payload.ofBytes (bytes.drop 8) }

/-- R111: a received cell is judged by the header check, the cell check and the kind check, in that order; `accepts`
says which kinds the receiving port accepts. A cell that was cut short lacks bytes of a check and fails it (R126): it is
counted under the header check when it ends before the header check byte, else under the cell check (DEDUCED, log
entry 9). -/
def judge (accepts : Kind → Bool) (bytes : List Byte) : Judged :=
  if bytes.length < 8 ∨ headerCheck (bytes.take 7) ≠ bytes.getD 7 0#8 then .bad .header
  else if bytes.length < 64 ∨ cellCheck (bytes.take 60) ≠ read32 bytes 60 then .bad .cell
  else match Kind.ofCode (bytes.getD 0 0#8) with
    | none => .bad .kind
    | some k =>
      if lengthAllowed k (bytes.getD 3 0#8) && accepts k then .good (cellOfBytes k bytes) else .bad .kind

/-- R111: the trunk port accepts all five kinds. -/
def trunkAccepts : Kind → Bool
  | .idle | .data | .command | .response | .notice => true

/-- R111: a station port accepts IDLE, DATA and COMMAND, and RESPONSE and NOTICE when its relay bit is set. -/
def stationAccepts (relay : Bool) : Kind → Bool
  | .idle | .data | .command => true
  | .response | .notice => relay

/-! ### Responses and notices as cells (R112, R159) -/

/-- R159: the payload of a response. -/
def Response.payloadBytes (r : Response) : List Byte :=
  [r.node, r.seq, r.code, r.status.code, r.detail, flagByte r.replayed] ++ be32 r.cycle ++ r.data

/-- R142: a response is a RESPONSE cell of flow ID 4095 whose payload length is 10 plus the number of data bytes. -/
def Response.cell (r : Response) : Cell :=
  { kind := .response, flowId := Config.managementFlow, demoted := false,
    len := BitVec.ofNat 8 (10 + r.data.length), payload := Payload.ofBytes r.payloadBytes }

/-- R159: the kind fields of a notice, from offset 8. -/
def NoticeBody.fields : NoticeBody → List Byte
  | .resetDone cause => [cause.code]
  | .planSwapped bank mode cycle => [bank.code, mode.code] ++ be32 cycle
  | .excursionDone bank cause => [bank.code, cause.code]
  | .schedHalted last abandoned excursionCut => be32 last ++ [flagByte abandoned, flagByte excursionCut]
  | .flowViolation index flowId reason value =>
    [indexByte index] ++ be16 (flowId.setWidth 16) ++ [reason.code] ++ be32 value
  | .portState port state cause => [indexByte port, state.code, cause.code]
  | .trunkState up => [flagByte up]

/-- R159: the payload of a notice. -/
def Notice.payloadBytes (n : Notice) : List Byte :=
  [n.node, n.seq, BitVec.ofNat 8 n.body.kindCode, flagByte n.lost] ++ be32 n.stamp ++ n.body.fields

/-- R161: a notice is a NOTICE cell of flow ID 4095 whose payload length is 8 plus the size of its kind fields. -/
def Notice.cell (n : Notice) : Cell :=
  { kind := .notice, flowId := Config.managementFlow, demoted := false,
    len := BitVec.ofNat 8 (8 + n.body.fields.length), payload := Payload.ofBytes n.payloadBytes }

/-! ### Images of stored records -/

/-- R159: a window entry in 7 bytes. -/
def WindowEntry.image (e : WindowEntry) : List Byte :=
  be16 e.span ++ be16 e.openLen ++ [e.owner, e.alignment, flagByte e.reclaim]

/-- R159: the window entry that the 7 bytes at offset `i` carry; any reclaim byte but 0 stores the flag set. -/
def entryAt (bytes : List Byte) (i : Nat) : WindowEntry :=
  { span := read16 bytes i, openLen := read16 bytes (i + 2), owner := bytes.getD (i + 4) 0#8,
    alignment := bytes.getD (i + 5) 0#8, reclaim := bytes.getD (i + 6) 0#8 != 0#8 }

/-- R160: the 40 bytes that FLOW_READ returns. R160 gives the other bits of byte 0 the value 0, and gives none to bits 3
and 2 of byte 3 nor to bits 7 and 3 of byte 4; there 0 is the model's choice (DESIGN CHOICE, log entry 25). -/
def FlowRecord.image (r : FlowRecord) : List Byte :=
  [0#3 ++ BitVec.ofBool r.meas.armed ++ BitVec.ofBool r.meas.seen ++ BitVec.ofBool r.terms.notifyEnable ++
    BitVec.ofBool r.terms.upstream ++ BitVec.ofBool r.valid] ++
  be16 (r.terms.flowId.setWidth 16) ++
  [r.terms.mask ++ 0#2 ++ BitVec.ofNat 2 r.terms.sourcePort.val,
    0#1 ++ BitVec.ofNat 3 r.terms.demoteClass.val ++ 0#1 ++ BitVec.ofNat 3 r.terms.cls.val,
    r.terms.action.code, r.terms.joinGap] ++
  be16 r.terms.burstLimit ++ be24 r.terms.minGap ++ be32 r.meas.lastArrival ++ be16 r.meas.currentBurst ++
  be16 r.meas.lastBurst ++ be24 r.meas.lastGap ++ be24 r.meas.smallestGap ++ be16 r.meas.largestBurst ++
  be32 r.meas.conforming ++ be32 r.meas.nonConforming ++ be32 r.meas.bufferDrops

end Sys2Proof.Machine
end

