-- ==== Sys2Proof/Machine/Plan.lean ====
section
/-! DEFINITION. Window plans (Chapter 1): tiling, slot kinds, the cycle length and plan validation. -/

namespace Sys2Proof.Machine

/-- R4: the kind of a slot, with the reclaim flag of its entry. -/
inductive SlotKind where
  | classWindow (k : ClassId) (reclaim : Bool)
  | managementWindow (reclaim : Bool)
  | free
  deriving DecidableEq, Repr

/-- R3, R10: the entries that make up the cycle: places 0 to entry count - 1. -/
def Bank.plan (b : Bank) : List WindowEntry :=
  b.entries.toList.take b.count

/-- R3: the sum of the spans. -/
def planLength (es : List WindowEntry) : Nat :=
  (es.map (fun e => e.span.toNat)).sum

/-- R3, R17: the cycle length of a bank. -/
def Bank.cycleLength (b : Bank) : Nat :=
  planLength b.plan

/-- R2: the offset of the first open slot within the span, for an entry whose open length is at most its span. -/
def WindowEntry.offset (e : WindowEntry) : Nat :=
  if e.alignment = 0#8 then 0
  else if e.alignment = 1#8 then e.span.toNat - e.openLen.toNat
  else (e.span.toNat - e.openLen.toNat) / 2

/-- R2: whether the slot at an offset within the span is an open slot. -/
def WindowEntry.isOpen (e : WindowEntry) (off : Nat) : Bool :=
  decide (e.offset ≤ off ∧ off < e.offset + e.openLen.toNat)

/-- R4: the kind of the slot at an offset within an entry's span. -/
def WindowEntry.slotKind (e : WindowEntry) (off : Nat) : SlotKind :=
  if e.isOpen off then
    if h : e.owner.toNat < 8 then .classWindow ⟨e.owner.toNat, h⟩ e.reclaim
    else if e.owner = 8#8 then .managementWindow e.reclaim
    else .free
  else .free

/-- R3, R4: the kind of the slot at a position of the cycle: that of the entry whose span covers the position. A
position outside the cycle (none is reached, R23) is covered by no entry and gives a free slot. -/
def slotKindAt : List WindowEntry → Nat → SlotKind
  | [], _ => .free
  | e :: es, pos => if pos < e.span.toNat then e.slotKind pos else slotKindAt es (pos - e.span.toNat)

/-- R7: the reasons of a failed validation, with their codes. -/
inductive PlanFault where
  | planEmpty | spanRange | openExceedsSpan | ownerRange | alignCode | cycleRange | noManagementSlot
  deriving DecidableEq, Repr

/-- R7: the reason codes. -/
def PlanFault.code : PlanFault → Byte
  | .planEmpty => 1#8 | .spanRange => 2#8 | .openExceedsSpan => 3#8 | .ownerRange => 4#8 | .alignCode => 5#8
  | .cycleRange => 6#8 | .noManagementSlot => 7#8

/-- R7: checks 2a to 2d of one entry, in their order. -/
def WindowEntry.fault (e : WindowEntry) : Option PlanFault :=
  if ¬ (1 ≤ e.span.toNat ∧ e.span.toNat ≤ Config.longestSpan) then some .spanRange
  else if ¬ e.openLen.toNat ≤ e.span.toNat then some .openExceedsSpan
  else if ¬ e.owner.toNat ≤ 8 then some .ownerRange
  else if ¬ e.alignment.toNat ≤ 2 then some .alignCode
  else none

/-- R7: the first failing entry from index `i` on, with its reason. -/
def firstEntryFault : List WindowEntry → Nat → Option (PlanFault × Nat)
  | [], _ => none
  | e :: es, i =>
    match e.fault with
    | some f => some (f, i)
    | none => firstEntryFault es (i + 1)

/-- R8: whether an entry brings a management-capable slot: a free slot, or an open slot of a management window. -/
def WindowEntry.managementCapable (e : WindowEntry) : Bool :=
  decide (e.openLen.toNat < e.span.toNat) || (e.owner == 8#8 && decide (1 ≤ e.openLen.toNat))

/-- R7: validation: none for a valid plan, else the reason and the entry index reported. -/
def Bank.planFault (b : Bank) : Option (PlanFault × Nat) :=
  if ¬ (1 ≤ b.count ∧ b.count ≤ Config.entryPlaces) then some (.planEmpty, 255)
  else match firstEntryFault b.plan 0 with
    | some f => some f
    | none =>
      if ¬ (Config.shortestCycle ≤ b.cycleLength ∧ b.cycleLength ≤ Config.longestCycle) then some (.cycleRange, 255)
      else if b.plan.any WindowEntry.managementCapable then none
      else some (.noManagementSlot, 255)

/-- R8: a free slot, or an open slot of a management window. -/
def SlotKind.managementCapable : SlotKind → Bool
  | .classWindow _ _ => false
  | .managementWindow _ => true
  | .free => true

/-- R10: the bank of a name. -/
def Sched.bank (c : Sched) : BankId → Bank
  | .a => c.bankA
  | .b => c.bankB

/-- A scheduler with one bank replaced. -/
def Sched.setBank (c : Sched) (i : BankId) (b : Bank) : Sched :=
  match i with
  | .a => { c with bankA := b }
  | .b => { c with bankB := b }

/-- A scheduler with one bank's state replaced; R10: the contents do not change. -/
def Sched.setBankState (c : Sched) (i : BankId) (st : BankState) : Sched :=
  c.setBank i { c.bank i with state := st }

/-- R40: the bank in a given state, if there is one. -/
def Sched.bankIn (c : Sched) (st : BankState) : Option BankId :=
  if c.bankA.state = st then some .a
  else if c.bankB.state = st then some .b
  else none

/-- R17: the length of the cycle that position counts through: that of the active bank. -/
def Sched.activeLength (c : Sched) : Nat :=
  match c.active with
  | some i => (c.bank i).cycleLength
  | none => 0

/-- R4, R22, R23: the kind of the slot at the present position of the active bank; free in HALTED. -/
def Sched.kindHere (c : Sched) : SlotKind :=
  if c.state = .halted then .free
  else match c.active with
    | some i => slotKindAt (c.bank i).plan c.position
    | none => .free

end Sys2Proof.Machine
end

