-- ==== Sys2Proof/Machine/Flags.lean ====
section
/-! DEFINITION. The conditions the rules test on the state: what is due, what is promoted, what may be taken. -/

namespace Sys2Proof.Machine

/-- R172: no power-on or pin reset is in progress. -/
def State.running (s : State) : Bool :=
  s.phase == .running

/-- R60: the occupancy of a class. -/
def ClassQueue.occupancy (c : ClassQueue) : Nat :=
  c.queue.length

/-- R50: a class is a candidate for a free slot when it is eligible and not empty. -/
def ClassQueue.candidate (c : ClassQueue) : Bool :=
  c.eligible && !c.queue.isEmpty

/-- R51, R73: the aging limit is non-zero and the age is at least the limit. -/
def ClassQueue.promoted (c : ClassQueue) : Bool :=
  c.agingLimit != 0#8 && decide (c.agingLimit.toNat ≤ c.age.toNat)

/-- R52: whether a candidate wins over a candidate of lower class number: a promoted one over an unpromoted one, the
larger age between promoted ones, the higher priority between unpromoted ones; a tie keeps the lower number. -/
def ClassQueue.beats (c d : ClassQueue) : Bool :=
  match c.promoted, d.promoted with
  | true, false => true
  | false, true => false
  | true, true => decide (d.age.toNat < c.age.toNat)
  | false, false => decide (d.priority < c.priority)

/-- R50: the candidate classes, lowest number first. -/
def QueueManager.candidates (q : QueueManager) : List ClassId :=
  (List.finRange 8).filter (fun k => q.classes[k].candidate)

/-- R52: the better of the winner so far and a class of higher number. -/
def QueueManager.better (q : QueueManager) (best : Option ClassId) (k : ClassId) : Option ClassId :=
  match best with
  | none => some k
  | some b => if q.classes[k].beats q.classes[b] then some k else some b

/-- R52: the winning class among the candidates. -/
def QueueManager.winner (q : QueueManager) : Option ClassId :=
  q.candidates.foldl q.better none

/-- R23, R25: a slot start taken now reaches the cycle length of the active bank. -/
def Sched.boundaryDue (c : Sched) : Bool :=
  c.state != .halted && !c.startPending && decide (c.activeLength ≤ c.position + 1)

/-- R156, R171: the PART_RESET response is the cell of the slot that is ending. -/
def State.managementResetDue (s : State) : Bool :=
  s.running && s.me.run == .resetSent

/-- R145, R156: the engine takes a command when it has not answered PART_RESET and the response queue has a free
place. -/
def State.mayTake (s : State) : Bool :=
  s.running && s.me.run == .taking && decide (s.me.responses.length < Config.responsePlaces)

/-- R141: the payload bytes that a command holds, up to its payload length. -/
def Command.bytes (c : Command) : List Byte :=
  c.payload.toList.take c.len.toNat

/-- R141: the parameters: the payload bytes after the command code. -/
def Command.params (c : Command) : List Byte :=
  c.bytes.drop 3

/-- R146: the sequence number, 0 where the byte is absent. -/
def Command.seq (c : Command) : Byte :=
  c.bytes.getD 1 0#8

/-- R146: the command code byte, 0 where it is absent. -/
def Command.codeByte (c : Command) : Byte :=
  c.bytes.getD 2 0#8

/-- R141: a command whose payload length is below 3 is a short command. -/
def Command.short (c : Command) : Bool :=
  decide (c.len.toNat < 3)

/-- R152: the command codes. -/
def CommandCode.code : CommandCode → Byte
  | .echo => 0x01#8 | .identify => 0x02#8 | .status => 0x03#8
  | .planWrite => 0x10#8 | .planLength => 0x11#8 | .planRead => 0x12#8 | .planCommit => 0x13#8
  | .planWithdraw => 0x14#8 | .schedStart => 0x15#8 | .schedStop => 0x16#8 | .excursionEnd => 0x17#8
  | .flowWrite => 0x20#8 | .flowRead => 0x21#8 | .flowClear => 0x22#8 | .flowRearm => 0x23#8
  | .classSet => 0x30#8 | .classRead => 0x31#8 | .classFlush => 0x32#8 | .relaySet => 0x33#8
  | .portSet => 0x40#8 | .portRead => 0x41#8 | .noticeSet => 0x50#8 | .partReset => 0x7F#8

/-- R152: the 23 commands of the catalogue. -/
def CommandCode.catalogue : List CommandCode :=
  [.echo, .identify, .status, .planWrite, .planLength, .planRead, .planCommit, .planWithdraw, .schedStart, .schedStop,
    .excursionEnd, .flowWrite, .flowRead, .flowClear, .flowRearm, .classSet, .classRead, .classFlush, .relaySet,
    .portSet, .portRead, .noticeSet, .partReset]

/-- R147: the command that a code byte names, if it is one of the 23. -/
def CommandCode.ofByte (byte : Byte) : Option CommandCode :=
  CommandCode.catalogue.find? (fun k => k.code == byte)

/-- The row that takes a command: none stands for BAD_COMMAND (a short command or an unknown code, R146, R147). -/
def Command.row (c : Command) : Option CommandCode :=
  if c.short then none else CommandCode.ofByte c.codeByte

/-- R78, R81, R86: the index of the valid record that carries a flow ID. -/
def lookupFlow (flows : Vector FlowRecord 256) (id : BitVec 12) : Option FlowIndex :=
  (List.finRange 256).find? (fun i => flows[i].valid && flows[i].terms.flowId == id)

end Sys2Proof.Machine
end

