-- ==== Sys2Proof/Machine/Ops.lean ====
section
/-! DEFINITION. The named operations over the blocks: saturating counters, the updates of State, posting a notice, the
queue manager's admission, dequeue and flush, a station port's change of state, the engine's answer, and the resets. -/

namespace Sys2Proof.Machine

/-! ### Counters and vectors -/

/-- 00_scope.md, Conventions: a saturating counter stops at its largest value and does not wrap. -/
def satAdd {w : Nat} (c : BitVec w) (n : Nat) : BitVec w :=
  BitVec.ofNat w (min (c.toNat + n) (2 ^ w - 1))

/-- A vector with one place replaced by a function of what stood there. -/
def updateAt {α : Type} {n : Nat} (v : Vector α n) (i : Fin n) (f : α → α) : Vector α n :=
  v.set i.val (f v[i]) i.isLt

/-! ### The updates of State, one block each -/

/-- The part with another scheduler. -/
def State.setSched (s : State) (c : Sched) : State := { s with sched := c }

/-- The part with another queue manager. -/
def State.setQm (s : State) (q : QueueManager) : State := { s with qm := q }

/-- The part with another flow table. -/
def State.setFlows (s : State) (v : Vector FlowRecord 256) : State := { s with flows := v }

/-- The part with other station ports. -/
def State.setPorts (s : State) (v : Vector Port 4) : State := { s with ports := v }

/-- The part with another trunk port. -/
def State.setTrunk (s : State) (t : Trunk) : State := { s with trunk := t }

/-- The part with another forwarder. -/
def State.setDf (s : State) (d : Forwarder) : State := { s with df := d }

/-- The part with another engine. -/
def State.setMe (s : State) (m : Engine) : State := { s with me := m }

/-- The part with another notice unit. -/
def State.setNu (s : State) (n : NoticeUnit) : State := { s with nu := n }

/-- The part with another reset phase. -/
def State.setPhase (s : State) (p : Phase) : State := { s with phase := p }

/-- The part with other pin levels. -/
def State.setPins (s : State) (p : Pins) : State := { s with pins := p }

/-- The part with one station port changed. -/
def State.updPort (s : State) (p : PortId) (f : Port → Port) : State :=
  s.setPorts (updateAt s.ports p f)

/-- The part with the counters of one station port changed. -/
def State.countPort (s : State) (p : PortId) (f : PortCounters → PortCounters) : State :=
  s.updPort p (fun pt => { pt with counters := f pt.counters })

/-- The part with one flow record changed. -/
def State.updFlow (s : State) (i : FlowIndex) (f : FlowRecord → FlowRecord) : State :=
  s.setFlows (updateAt s.flows i f)

/-! ### Posting a notice (R161, R162) -/

/-- R161: the notice that the notice unit forms from a posting. -/
def State.formNotice (s : State) (body : NoticeBody) : Notice :=
  { node := s.me.nodeAddr, seq := s.nu.seq, lost := s.nu.lost, stamp := s.sched.slotClock, body := body }

/-- R162: a masked kind is discarded; a full queue loses the posting and sets the lost flag; otherwise the notice is
appended, the lost flag is cleared and the sequence counter is incremented. -/
def State.post (s : State) (body : NoticeBody) : State :=
  if !s.nu.mask.getLsbD body.kindCode then s
  else if Config.noticePlaces ≤ s.nu.queue.length then s.setNu { s.nu with lost := true }
  else s.setNu { s.nu with queue := s.nu.queue ++ [s.formNotice body], lost := false, seq := s.nu.seq + 1#8 }

/-- A posting that a block may or may not make. -/
def State.postIf (s : State) : Option NoticeBody → State
  | some body => s.post body
  | none => s

/-- R162: a block hands over a posting, or none, and does not wait for the notice unit to take it (log entry 23). -/
def State.handOver (s : State) (b : Option NoticeBody) : State :=
  s.setNu { s.nu with handed := b }

/-- R162, R167: the notice unit takes the posting that waits, if one does, as an event of its own. -/
def State.takeHanded (s : State) : State :=
  match s.nu.handed with
  | some body => (s.handOver none).post body
  | none => s

/-! ### The queue manager (R63 to R69) -/

/-- The queue manager with one class changed. -/
def QueueManager.updClass (q : QueueManager) (k : ClassId) (f : ClassQueue → ClassQueue) : QueueManager :=
  { q with classes := updateAt q.classes k f }

/-- R63: the target class of an offer; for a relayed cell, the relay class as it stands now. -/
def QueueManager.targetOf (q : QueueManager) : Target → ClassId
  | .named k => k
  | .relay => q.relayClass

/-- R64: the offer's class is below its limit and the free list is not empty. -/
def QueueManager.admits (q : QueueManager) (o : Offer) : Bool :=
  decide (q.classes[q.targetOf o.target].occupancy < q.classes[q.targetOf o.target].limit) && !q.free.isEmpty

/-- R64: the offer is stored in a buffer cell taken from the free list and its descriptor appended. -/
def QueueManager.store (q : QueueManager) (o : Offer) : QueueManager :=
  match q.free with
  | [] => q
  | i :: rest =>
    { q with buffer := updateAt q.buffer i (fun _ => o.cell), free := rest }.updClass (q.targetOf o.target)
      (fun c => { c with
        queue := c.queue ++ [Descriptor.mk i o.flow o.demoted], enqueued := satAdd c.enqueued 1 })

/-- R65: a dropped offer is counted in its target class. -/
def QueueManager.countDrop (q : QueueManager) (o : Offer) : QueueManager :=
  q.updClass (q.targetOf o.target) (fun c => { c with dropped := satAdd c.dropped 1 })

/-- R64, R65: the queue manager takes an offer. -/
def QueueManager.take (q : QueueManager) (o : Offer) : QueueManager :=
  if q.admits o then q.store o else q.countDrop o

/-- R67: the cell at the head of a class, with its descriptor's demoted flag. -/
def QueueManager.headCell (q : QueueManager) (k : ClassId) : Option Cell :=
  q.classes[k].queue.head?.map (fun d => q.buffer[d.index].withFlag d.demoted)

/-- R54: a class whose queue is empty has age 0. -/
def ClassQueue.settleAge (c : ClassQueue) : ClassQueue :=
  if c.queue.isEmpty then { c with age := 0#8 } else c

/-- R67: the head descriptor of a class is removed, its buffer cell returns to the free list, and the transmitted
counter is incremented; R54: if the queue is then empty, the age becomes 0. -/
def QueueManager.dequeue (q : QueueManager) (k : ClassId) : QueueManager :=
  match q.classes[k].queue with
  | [] => q
  | d :: ds =>
    { q with free := q.free ++ [d.index] }.updClass k
      (fun c => { c with queue := ds, transmitted := satAdd c.transmitted 1 }.settleAge)

/-- R69: every descriptor of a class is removed, its buffer cells return to the free list, the number is added to the
flushed counter and the age becomes 0. -/
def QueueManager.flush (q : QueueManager) (k : ClassId) : QueueManager :=
  { q with free := q.free ++ q.classes[k].queue.map Descriptor.index }.updClass k
    (fun c => { c with queue := [], flushed := satAdd c.flushed c.occupancy, age := 0#8 })

/-- R53: the age of one class after a free slot granted to `granted` (none when no class got it). -/
def ClassQueue.aged (c : ClassQueue) (granted : Bool) : ClassQueue :=
  if !c.candidate then c
  else if granted then { c with age := 0#8 }
  else { c with age := satAdd c.age 1 }

/-- R53: the age bookkeeping of a free slot. -/
def QueueManager.ageFree (q : QueueManager) (granted : Option ClassId) : QueueManager :=
  { q with classes := Vector.ofFn (fun k : ClassId => q.classes[k].aged (granted == some k)) }

/-! ### Station ports (R114, R115, R119, R121) -/

/-- R120, R172: a cell in transmission is cut short. -/
def LinkOut.cutShort : LinkOut → LinkOut
  | .sending wire => .cut wire
  | .silent => .silent
  | .cut wire => .cut wire

/-- R114, R121: a port enters a state. On entry to DISABLED or WAITING the error streak becomes 0, the egress FIFO is
flushed and counted, and a cell in transmission is cut short (R120). -/
def Port.enter (pt : Port) (new : PortState) : Port :=
  match new with
  | .disabled | .waiting =>
    { pt with
      state := new, streak := 0#8, egress := [], tx := pt.tx.cutShort
      counters := { pt.counters with flushed := satAdd pt.counters.flushed pt.egress.length } }
  | .active | .quarantined => { pt with state := new }

/-- R115: a change of a port's state, with the notice that every change posts. -/
def State.enterPort (s : State) (p : PortId) (new : PortState) (cause : PortCause) : State :=
  (s.updPort p (fun pt => pt.enter new)).post (.portState p new cause)

/-- R119: whether a port appends an offered downstream cell. -/
def Port.takesEgress (pt : Port) : Bool :=
  (pt.state == .active || pt.state == .quarantined) && decide (pt.egress.length < Config.egressPlaces)

/-- R119: a port appends an offered downstream cell to its egress FIFO, or drops it and counts the drop. -/
def Port.offerEgress (pt : Port) (c : Cell) : Port :=
  if pt.takesEgress then { pt with egress := pt.egress ++ [c] }
  else { pt with counters := { pt.counters with egressDropped := satAdd pt.counters.egressDropped 1 } }

/-- R132, R134: a cell is offered to every port that `named` picks. -/
def State.offerPorts (s : State) (named : PortId → Bool) (c : Cell) : State :=
  s.setPorts (Vector.ofFn (fun p : PortId => if named p then s.ports[p].offerEgress c else s.ports[p]))

/-! ### The engine's answer (R142, R148 to R150) -/

/-- What an owner answers to a command (R148). -/
structure Answer where
  status : Status
  detail : Byte
  data : List Byte
  deriving DecidableEq, Repr

/-- R151: an OK answer with its data. -/
def Answer.ok (data : List Byte) : Answer :=
  { status := .ok, detail := 0#8, data := data }

/-- R151: a refusal with its detail byte and no data. -/
def Answer.refuse (status : Status) (detail : Byte) : Answer :=
  { status := status, detail := detail, data := [] }

/-- R151: BAD_PARAM with the offset of the first bad or missing parameter byte. -/
def Answer.badParam (offset : Nat) : Answer :=
  Answer.refuse .badParam (BitVec.ofNat 8 offset)

/-- R142: the response record of a command: the sequence number and code echoed, the replayed flag clear, the cycle
number as it stands now, after the command. -/
def State.record (s : State) (c : Command) (a : Answer) : Response :=
  { node := s.me.nodeAddr, seq := c.seq, code := c.codeByte, status := a.status, detail := a.detail,
    replayed := false, cycle := s.sched.cycle, data := a.data }

/-- R144: a record is appended to the response queue. -/
def State.appendResponse (s : State) (r : Response) : State :=
  s.setMe { s.me with responses := s.me.responses ++ [r] }

/-- R148, R149: the record of a decoded command is appended and copied into the last-response cache. -/
def State.answer (s : State) (c : Command) (a : Answer) : State :=
  s.setMe { s.me with
    responses := s.me.responses ++ [s.record c a], cache := some { seq := c.seq, record := s.record c a } }

/-- R146: the cached record that a duplicate is answered with. -/
def State.duplicateOf (s : State) (c : Command) : Option Response :=
  match s.me.cache with
  | some e => if e.seq = c.seq then some e.record else none
  | none => none

/-- R146 to R150: the command just taken from the queue is answered: a short command without the cache, a duplicate
from the cache, any other command by its owner's `run`. -/
def State.execute (s : State) (c : Command) (run : List Byte → State → State × Answer) : State :=
  if c.short then s.appendResponse (s.record c (Answer.refuse .badCommand 255#8))
  else match s.duplicateOf c with
    | some r => s.appendResponse { r with replayed := true }
    | none => (run c.params s).1.answer c (run c.params s).2

/-- R145: the engine takes the oldest command of its queue when it may and that command is the row's; otherwise the
row's event does not arise and nothing changes (log entry 3). -/
def State.takeCommand (s : State) (row : Option CommandCode) (run : List Byte → State → State × Answer) : State :=
  if s.mayTake then
    match s.me.commands with
    | [] => s
    | c :: rest => if c.row = row then (s.setMe { s.me with commands := rest }).execute c run else s
  else s

/-! ### Resets (R20, R55, R62, R79, R113, R138, R168, R171, R172) -/

/-- R140: the node address that a strap value gives. -/
def nodeAddressOf (straps : BitVec 6) : Byte :=
  if straps = 63#6 then 0#8 else straps.setWidth 8

/-- R171, R172: a power-on or pin reset begins. Every block is held at its reset values, the links go silent, a cell in
transmission is cut short, and what was received or handed on is lost. The sampled straps, the cause and RESET_DONE
follow at the end of the reset. -/
def State.holdReset (s : State) (phase : Phase) : State :=
  { phase := phase, pins := s.pins, sched := Sched.reset, qm := QueueManager.reset,
    flows := Vector.replicate 256 FlowRecord.reset,
    ports := Vector.ofFn (fun p : PortId => { Port.reset s.ports[p].signal with tx := s.ports[p].tx.cutShort }),
    trunk := { Trunk.reset s.trunk.signal with tx := s.trunk.tx.cutShort }, df := Forwarder.reset,
    me := Engine.reset s.me.nodeAddr s.me.straps s.me.rate s.me.cause,
    nu := { NoticeUnit.reset s.me.nodeAddr s.me.cause with queue := [], seq := 0#8 }, pending := s.pending }

/-- R173: the part at the end of a reset of a given cause, with the node address and strap values given. The signal
states are taken from the lines (R113, R127), and RESET_DONE is in the notice queue (R168). Nothing is transmitted
until the next slot start or transmit opportunity, but for what `trunkTx` and `portTx` leave on the links. -/
def State.endReset (s : State) (node : Byte) (straps : BitVec 6) (rate : Bool) (cause : ResetCause)
    (trunkTx : LinkOut) (portTx : PortId → LinkOut) : State :=
  { phase := .running, pins := s.pins, sched := Sched.reset, qm := QueueManager.reset,
    flows := Vector.replicate 256 FlowRecord.reset,
    ports := Vector.ofFn (fun p : PortId => { Port.reset s.pins.stationLine[p] with tx := portTx p }),
    trunk := { Trunk.reset s.pins.trunkLine with tx := trunkTx }, df := Forwarder.reset,
    me := Engine.reset node straps rate cause, nu := NoticeUnit.reset node cause, pending := s.pending }

/-- R140, R170, R171: a power-on or pin reset ends: RESET_N is high, the strap pins are sampled and the node address is
set from them. -/
def State.endPinReset (s : State) (straps : BitVec 6) (rate : Bool) (cause : ResetCause) : State :=
  (s.setPins { s.pins with resetN := true, straps := straps, rate := rate }).endReset (nodeAddressOf straps) straps
    rate cause .silent (fun _ => .silent)

/-- R156, R171: the management reset: every block takes its values, the node address and the strap values are kept. The
trunk carries one cell in every slot across it (R172); the station links go silent, a cell on them being cut short. -/
def State.managementReset (s : State) : State :=
  s.endReset s.me.nodeAddr s.me.straps s.me.rate .management s.trunk.tx (fun p => s.ports[p].tx.cutShort)

end Sys2Proof.Machine
end

