-- ==== Sys2Proof/Machine/Operands.lean ====
section
/-! DEFINITION. The parameters of a command (R141, R147): their offsets, the length check and the range checks. -/

namespace Sys2Proof.Machine

/-- The parameter byte at an offset. -/
def par (p : List Byte) (i : Nat) : Byte :=
  p.getD i 0#8

/-- A flag or option parameter accepts 0 and 1 (R152). -/
def isFlag (b : Byte) : Bool :=
  decide (b.toNat ≤ 1)

/-- A parameter that names one of `n` things. -/
def isBelow (n : Nat) (b : Byte) : Bool :=
  decide (b.toNat < n)

/-- R28: the bank that a code in range names. -/
def bankOf (b : Byte) : BankId :=
  if b = 0#8 then .a else .b

/-- The class that a code in range names. -/
def classOf (b : Byte) : ClassId :=
  Fin.ofNat 8 b.toNat

/-- The station port that a code in range names. -/
def portOf (b : Byte) : PortId :=
  Fin.ofNat 4 b.toNat

/-- The flow record that an index byte names. -/
def flowIndexOf (b : Byte) : FlowIndex :=
  Fin.ofNat 256 b.toNat

/-- R28: the mode that a code in range names. -/
def modeOf (b : Byte) : CommitMode :=
  if b = 0#8 then .permanent else .excursion

/-- R87: the policing action that a code in range names. -/
def policingOf (b : Byte) : Policing :=
  if b = 0#8 then .measure else if b = 1#8 then .demote else .discard

/-- R122: the unknown-flow policy that a code in range names. -/
def policyOf (b : Byte) : UnknownPolicy :=
  if b = 0#8 then .discard else .forward

/-- R147: the offset of the first parameter out of range, the checks standing in order of offset. -/
def firstBad : List (Nat × Bool) → Option Nat
  | [] => none
  | (off, good) :: rest => if good then firstBad rest else some off

/-- R147: the offset to report for the parameters `p` of a command that needs `need` bytes: the first missing byte, else
the first parameter out of range. -/
def badOffset (need : Nat) (checks : List (Nat × Bool)) (p : List Byte) : Option Nat :=
  if p.length < need then some p.length else firstBad checks

/-- R147, R148: a command whose parameters fail is refused by the engine and changes nothing; any other is presented to
its owner. -/
def checked (need : Nat) (checks : List (Nat × Bool)) (p : List Byte) (s : State) (owner : State × Answer) :
    State × Answer :=
  match badOffset need checks p with
  | some off => (s, .badParam off)
  | none => owner

/-- R160: the record that the 16 parameter bytes of FLOW_WRITE carry. -/
def flowTermsOf (p : List Byte) : FlowTerms :=
  { flowId := (read16 p 1).setWidth 12, upstream := par p 3 == 1#8, sourcePort := portOf (par p 4),
    cls := classOf (par p 5), action := policingOf (par p 6), demoteClass := classOf (par p 7),
    joinGap := par p 8, burstLimit := read16 p 9, minGap := read24 p 11, notifyEnable := par p 14 == 1#8,
    mask := (par p 15).extractLsb' 0 4 }

/-- R87, R160: the range checks of FLOW_WRITE. -/
def flowWriteChecks (p : List Byte) : List (Nat × Bool) :=
  [(1, decide ((read16 p 1).toNat ≤ 4095)), (3, isFlag (par p 3)), (4, isBelow 4 (par p 4)), (5, isBelow 8 (par p 5)),
    (6, isBelow 3 (par p 6)), (7, isBelow 8 (par p 7)), (8, decide (1 ≤ (par p 8).toNat)), (14, isFlag (par p 14)),
    (15, decide ((par p 15).toNat < 16))]

/-- R14: the bank, first-index and count checks of PLAN_WRITE. -/
def planWriteChecks (p : List Byte) : List (Nat × Bool) :=
  [(0, isFlag (par p 0)), (1, isBelow 64 (par p 1)),
    (2, decide (1 ≤ (par p 2).toNat ∧ (par p 2).toNat ≤ Config.entriesPerCommand ∧
      (par p 1).toNat + (par p 2).toNat ≤ Config.entryPlaces))]

/-- R147: the offset that PLAN_WRITE reports: an absent one of its first three bytes, else the first failing check of
R14, else the first absent entry byte. -/
def planWriteBad (p : List Byte) : Option Nat :=
  if p.length < 3 then some p.length
  else match firstBad (planWriteChecks p) with
    | some off => some off
    | none => if p.length < 3 + 7 * (par p 2).toNat then some p.length else none

/-- R14: the entries that PLAN_WRITE carries. -/
def planWriteEntries (p : List Byte) : List WindowEntry :=
  (List.range (par p 2).toNat).map (fun i => entryAt p (3 + 7 * i))

/-- R16: the parameter checks of PLAN_READ. -/
def planReadChecks (p : List Byte) : List (Nat × Bool) :=
  [(0, isFlag (par p 0)), (1, isBelow 64 (par p 1)),
    (2, decide ((par p 2).toNat ≤ Config.entriesPerCommand ∧
      ((par p 2).toNat = 0 ∨ (par p 1).toNat + (par p 2).toNat ≤ Config.entryPlaces)))]

end Sys2Proof.Machine
end

