-- ==== Sys2Proof/Machine/ClassCommands.lean ====
section
/-! DEFINITION. The class commands, owned by the queue manager (4.5 to 4.8). -/

namespace Sys2Proof.Machine

/-- An occupancy or a count of cells in 2 bytes. -/
def countBytes (n : Nat) : List Byte :=
  be16 (BitVec.ofNat 16 n)

/-- R71: the parameters that CLASS_SET replaces together. -/
structure ClassTerms where
  limit : Nat
  priority : Fin 8
  agingLimit : Byte
  eligible : Bool
  deriving DecidableEq, Repr

/-- R71: a class with its parameters replaced; the age, the queue and the counters keep their values. -/
def ClassQueue.withTerms (c : ClassQueue) (t : ClassTerms) : ClassQueue :=
  { c with limit := t.limit, priority := t.priority, agingLimit := t.agingLimit, eligible := t.eligible }

/-- R71: the queue manager takes CLASS_SET. -/
def State.classSet (s : State) (k : ClassId) (t : ClassTerms) : State × Answer :=
  if t.limit < s.qm.classes[k].occupancy then
    (s, { status := .limitBelowOccupancy, detail := 0#8, data := countBytes s.qm.classes[k].occupancy })
  else
    (s.setQm (s.qm.updClass k (fun c => c.withTerms t)),
      .ok (countBytes s.qm.classes[k].occupancy ++ [s.qm.classes[k].age]))

/-- R71: the parameters that CLASS_SET carries. -/
def classTermsOf (p : List Byte) : ClassTerms :=
  { limit := (read16 p 1).toNat, priority := classOf (par p 3), agingLimit := par p 4, eligible := par p 5 == 1#8 }

/-- R71: CLASS_SET. -/
def runClassSet (p : List Byte) (s : State) : State × Answer :=
  checked 6 [(0, isBelow 8 (par p 0)), (1, decide ((read16 p 1).toNat ≤ Config.bufferCells)), (3, isBelow 8 (par p 3)),
      (5, isFlag (par p 5))] p s
    (s.classSet (classOf (par p 0)) (classTermsOf p))

/-- CLASS_SET (R71). -/
def execClassSet (s : State) : Host.Outcome State Fault Refusal :=
  .next (s.takeCommand (some .classSet) runClassSet)

/-- R73, R160: the head descriptor as CLASS_READ reports it: flow flag, flow index (255 with the flag clear), demoted
flag. -/
def ClassQueue.headReport (c : ClassQueue) : List Byte :=
  match c.queue with
  | [] => [0#8, 255#8, 0#8]
  | d :: _ =>
    match d.flow with
    | some i => [1#8, indexByte i, flagByte d.demoted]
    | none => [0#8, 255#8, flagByte d.demoted]

/-- R73, R160: the 30 bytes of CLASS_READ, with the free buffer count `free`. -/
def ClassQueue.report (c : ClassQueue) (free : Nat) : List Byte :=
  countBytes c.limit ++ [indexByte c.priority, c.agingLimit, flagByte c.eligible] ++ countBytes c.occupancy ++
    [c.age, flagByte c.promoted] ++ c.headReport ++ countBytes free ++
    be32 c.enqueued ++ be32 c.dropped ++ be32 c.transmitted ++ be32 c.flushed

/-- R74: the four counters of a class set to 0. -/
def ClassQueue.clearCounters (c : ClassQueue) : ClassQueue :=
  { c with enqueued := 0#32, dropped := 0#32, transmitted := 0#32, flushed := 0#32 }

/-- R73, R74: CLASS_READ reports, and then clears the counters when its option is given. -/
def State.classRead (s : State) (k : ClassId) (clear : Bool) : State × Answer :=
  (if clear then s.setQm (s.qm.updClass k ClassQueue.clearCounters) else s,
    .ok (s.qm.classes[k].report s.qm.free.length))

/-- R73: CLASS_READ. -/
def runClassRead (p : List Byte) (s : State) : State × Answer :=
  checked 2 [(0, isBelow 8 (par p 0)), (1, isFlag (par p 1))] p s (s.classRead (classOf (par p 0)) (par p 1 == 1#8))

/-- CLASS_READ (R73). -/
def execClassRead (s : State) : Host.Outcome State Fault Refusal :=
  .next (s.takeCommand (some .classRead) runClassRead)

/-- R69: CLASS_FLUSH empties a class and returns the number of cells flushed. -/
def State.classFlush (s : State) (k : ClassId) : State × Answer :=
  (s.setQm (s.qm.flush k), .ok (countBytes s.qm.classes[k].occupancy))

/-- R69: CLASS_FLUSH. -/
def runClassFlush (p : List Byte) (s : State) : State × Answer :=
  checked 1 [(0, isBelow 8 (par p 0))] p s (s.classFlush (classOf (par p 0)))

/-- CLASS_FLUSH (R69). -/
def execClassFlush (s : State) : Host.Outcome State Fault Refusal :=
  .next (s.takeCommand (some .classFlush) runClassFlush)

/-- R75: RELAY_SET replaces the relay class and returns the previous one. -/
def State.relaySet (s : State) (k : ClassId) : State × Answer :=
  (s.setQm { s.qm with relayClass := k }, .ok [indexByte s.qm.relayClass])

/-- R75: RELAY_SET. -/
def runRelaySet (p : List Byte) (s : State) : State × Answer :=
  checked 1 [(0, isBelow 8 (par p 0))] p s (s.relaySet (classOf (par p 0)))

/-- RELAY_SET (R75). -/
def execRelaySet (s : State) : Host.Outcome State Fault Refusal :=
  .next (s.takeCommand (some .relaySet) runRelaySet)

end Sys2Proof.Machine
end

