-- ==== Sys2Proof/Machine/Downstream.lean ====
section
/-! DEFINITION. The trunk port's reception and signal (7.6) and the downstream forwarder (Chapter 8). -/

namespace Sys2Proof.Machine

/-- R126: a bad trunk cell is counted under the first check it failed. -/
def Trunk.countBad (t : Trunk) : Check → Trunk
  | .header => { t with headerErrors := satAdd t.headerErrors 1 }
  | .cell => { t with cellErrors := satAdd t.cellErrors 1 }
  | .kind => { t with kindErrors := satAdd t.kindErrors 1 }

/-- R126: a good IDLE cell is ignored; any other good cell is counted and handed to the forwarder. -/
def Trunk.takeGood (t : Trunk) (c : Cell) : Trunk :=
  match c.kind with
  | .idle => t
  | .data | .command | .response | .notice =>
    { t with received := satAdd t.received 1, handoff := t.handoff ++ [c] }

/-- R126: what the trunk port takes: any cell while its signal state is UP, and, while it is DOWN, only the part of a
cell that the loss of signal cut short (log entry 10). -/
def Trunk.takes (t : Trunk) (bytes : List Byte) : Bool :=
  t.signal || decide (bytes.length < 64)

/-- R126: the trunk port takes a received cell. -/
def Trunk.receive (t : Trunk) (bytes : List Byte) : Trunk :=
  if t.takes bytes then
    match judge trunkAccepts bytes with
    | .bad check => t.countBad check
    | .good c => t.takeGood c
  else t

/-- TRUNK_CELL_RECEIVE (R126): no cell is taken while a power-on or pin reset is in progress (R172). -/
def execTrunkCellReceive (bytes : List Byte) (s : State) : Host.Outcome State Fault Refusal :=
  .next (if s.running then s.setTrunk (s.trunk.receive bytes) else s)

/-- R127: the trunk signal as it changes: the change to DOWN is counted as a signal loss. -/
def Trunk.changeSignal (t : Trunk) (up : Bool) : Trunk :=
  { t with signal := up, signalLosses := if up then t.signalLosses else satAdd t.signalLosses 1 }

/-- R127: a change of the trunk signal state posts TRUNK_STATE. -/
def State.changeTrunkSignal (s : State) (up : Bool) : State :=
  if s.trunk.signal = up then s else (s.setTrunk (s.trunk.changeSignal up)).post (.trunkState up)

/-- 11.7: the line signal of the trunk as it now stands. -/
def State.setTrunkLine (s : State) (present : Bool) : State :=
  s.setPins { s.pins with trunkLine := present }

/-- TRUNK_SIGNAL_CHANGE (R127). During a reset only the line changes: the signal state is taken from it at the reset's
end (log entry 18). -/
def execTrunkSignalChange (up : Bool) (s : State) : Host.Outcome State Fault Refusal :=
  .next (if s.running then (s.setTrunkLine up).changeTrunkSignal up else s.setTrunkLine up)

/-! ### The forwarder (R128 to R136) -/

/-- R129: the node address of a command, the first byte of its payload. -/
def Cell.nodeByte (c : Cell) : Byte :=
  c.payload[0]

/-- R129: a node address of 0, the wildcard, or equal to the pacer's own, addresses this pacer. -/
def State.addressed (s : State) (c : Cell) : Bool :=
  c.nodeByte == 0#8 || c.nodeByte == s.me.nodeAddr

/-- R130: a command for this pacer is appended to the command queue and counted, or dropped when 4 wait. -/
def State.queueCommand (s : State) (c : Cell) : State :=
  if s.me.commands.length < Config.commandPlaces then
    (s.setMe { s.me with commands := s.me.commands ++ [{ payload := c.payload, len := c.len }] }).setDf
      { s.df with commandsTaken := satAdd s.df.commandsTaken 1 }
  else s.setMe { s.me with commandDrops := satAdd s.me.commandDrops 1 }

/-- R132: a command for another node is offered to every port whose relay bit is set; with none set it is dropped. -/
def State.relayCommand (s : State) (c : Cell) : State :=
  if (List.finRange 4).any (fun p : PortId => s.ports[p].relay) then
    (s.offerPorts (fun p => s.ports[p].relay) c).setDf
      { s.df with commandsRelayed := satAdd s.df.commandsRelayed 1 }
  else s.setDf { s.df with commandsUnrelayable := satAdd s.df.commandsUnrelayable 1 }

/-- R86, R134, R135: a data cell is offered to the ports of its record's mask, or dropped as unmatched or without
ports. -/
def State.forwardData (s : State) (c : Cell) : State :=
  match lookupFlow s.flows c.flowId with
  | none => s.setDf { s.df with dataUnmatched := satAdd s.df.dataUnmatched 1 }
  | some i =>
    if s.flows[i].terms.mask = 0#4 then s.setDf { s.df with dataWithoutPorts := satAdd s.df.dataWithoutPorts 1 }
    else (s.offerPorts (fun p => s.flows[i].terms.mask.getLsbD p.val) c).setDf
      { s.df with dataForwarded := satAdd s.df.dataForwarded 1 }

/-- R128: the outcome of one trunk cell, by kind and, for a command, by node address. An IDLE cell is not handed over
(R126). -/
def State.forward (s : State) (c : Cell) : State :=
  match c.kind with
  | .command => if s.addressed c then s.queueCommand c else s.relayCommand c
  | .data => s.forwardData c
  | .response | .notice => s.setDf { s.df with misdirected := satAdd s.df.misdirected 1 }
  | .idle => s

/-- R128: the forwarder takes the oldest cell that the trunk port handed over. -/
def State.forwardNext (s : State) : State :=
  match s.trunk.handoff with
  | [] => s
  | c :: rest => (s.setTrunk { s.trunk with handoff := rest }).forward c

/-- DOWNSTREAM_FORWARD (R128): with no cell handed over, the event does not arise (log entry 3). -/
def execDownstreamForward (s : State) : Host.Outcome State Fault Refusal :=
  .next (if s.running then s.forwardNext else s)

end Sys2Proof.Machine
end

