-- ==== Sys2Proof/Machine/EngineCommands.lean ====
section
/-! DEFINITION. The engine's own commands (R146, R147, R153, R154, R156): BAD_COMMAND, ECHO, IDENTIFY, STATUS and
PART_RESET. -/

namespace Sys2Proof.Machine

/-- R147: an unknown command code is answered BAD_COMMAND with detail 0. -/
def runBadCommand (_p : List Byte) (s : State) : State × Answer :=
  (s, .refuse .badCommand 0#8)

/-- BAD_COMMAND (R146, R147): the engine takes a short command or one of unknown code. -/
def execBadCommand (s : State) : Host.Outcome State Fault Refusal :=
  .next (s.takeCommand none runBadCommand)

/-- R152, R153: ECHO returns its parameter bytes; more than 40 are refused at offset 40. -/
def runEcho (p : List Byte) (s : State) : State × Answer :=
  if Config.echoBytes < p.length then (s, .badParam Config.echoBytes) else (s, .ok p)

/-- ECHO (R153). -/
def execEcho (s : State) : Host.Outcome State Fault Refusal :=
  .next (s.takeCommand (some .echo) runEcho)

/-- R153, R160: the 20 bytes of IDENTIFY. -/
def State.identity (s : State) : List Byte :=
  be16 Config.vendorCode ++ be16 Config.partCode ++
    [s.me.nodeAddr, s.me.straps.setWidth 8, flagByte s.me.rate, s.me.cause.code, 4#8, 8#8] ++
    be16 512#16 ++ be16 256#16 ++ [64#8, 4#8, 8#8, 16#8, 32#8, 5#8]

/-- R153: IDENTIFY returns the fixed identity with four items of state. -/
def runIdentify (_p : List Byte) (s : State) : State × Answer :=
  (s, .ok s.identity)

/-- IDENTIFY (R153). -/
def execIdentify (s : State) : Host.Outcome State Fault Refusal :=
  .next (s.takeCommand (some .identify) runIdentify)

/-- R40, R154, R160: the 22 bytes of STATUS. -/
def State.statusReport (s : State) : List Byte :=
  [s.sched.state.code, bankOrNone s.sched.active, bankOrNone (s.sched.bankIn .armed),
    bankOrNone (s.sched.bankIn .held), s.sched.excursionLeft, flagByte s.sched.endRequested] ++
    be16 (BitVec.ofNat 16 s.sched.position) ++ be32 s.sched.slotClock ++ [flagByte s.trunk.signal] ++
    (s.ports.toList.map (fun pt => pt.state.code)) ++ be16 (BitVec.ofNat 16 s.qm.free.length) ++
    be16 s.me.commandDrops ++ [flagByte s.nu.lost]

/-- R154: the clear option sets the command-drop counter to 0. -/
def State.clearDrops (s : State) (clear : Bool) : State :=
  if clear then s.setMe { s.me with commandDrops := 0#16 } else s

/-- R154: STATUS reports, and then clears the command-drop counter when its option is given. -/
def runStatus (p : List Byte) (s : State) : State × Answer :=
  checked 1 [(0, isFlag (par p 0))] p s (s.clearDrops (par p 0 == 1#8), .ok s.statusReport)

/-- STATUS (R154). -/
def execStatus (s : State) : Host.Outcome State Fault Refusal :=
  .next (s.takeCommand (some .status) runStatus)

/-- R156: PART_RESET is answered OK, and the engine takes no further command. -/
def runPartReset (_p : List Byte) (s : State) : State × Answer :=
  (s.setMe { s.me with run := .resetAnswered }, .ok [])

/-- PART_RESET (R156). -/
def execPartReset (s : State) : Host.Outcome State Fault Refusal :=
  .next (s.takeCommand (some .partReset) runPartReset)

end Sys2Proof.Machine
end

