-- ==== Sys2Proof/Machine/FlowCommands.lean ====
section
/-! DEFINITION. The flow commands, owned by the flow classifier (5.4, 5.5, 6.7). -/

namespace Sys2Proof.Machine

/-- R96: the measurement record after an accepted FLOW_WRITE, and after FLOW_REARM with its reset option. -/
def Measurement.armedReset : Measurement :=
  { Measurement.reset with armed := true }

/-- R87: the valid record at an index other than `i` that carries a flow ID. -/
def duplicateFlow (flows : Vector FlowRecord 256) (i : FlowIndex) (id : BitVec 12) : Option FlowIndex :=
  (List.finRange 256).find? (fun j => j != i && flows[j].valid && flows[j].terms.flowId == id)

/-- R87, R88: the classifier takes FLOW_WRITE. -/
def State.flowWrite (s : State) (i : FlowIndex) (t : FlowTerms) : State × Answer :=
  if t.flowId = 0#12 ∨ t.flowId = 4095#12 then (s, .refuse .reservedFlow 0#8)
  else match duplicateFlow s.flows i t.flowId with
    | some j => (s, { status := .duplicateFlow, detail := 0#8, data := [indexByte j] })
    | none =>
      (s.updFlow i (fun _ => { valid := true, terms := t, meas := Measurement.armedReset }),
        .ok ([flagByte s.flows[i].valid] ++ be16 (s.flows[i].terms.flowId.setWidth 16)))

/-- R87: FLOW_WRITE. -/
def runFlowWrite (p : List Byte) (s : State) : State × Answer :=
  checked 16 (flowWriteChecks p) p s (s.flowWrite (flowIndexOf (par p 0)) (flowTermsOf p))

/-- FLOW_WRITE (R87). -/
def execFlowWrite (s : State) : Host.Outcome State Fault Refusal :=
  .next (s.takeCommand (some .flowWrite) runFlowWrite)

/-- R93: the three counts of a measurement record set to 0. -/
def Measurement.clearCounts (m : Measurement) : Measurement :=
  { m with conforming := 0#32, nonConforming := 0#32, bufferDrops := 0#32 }

/-- R92, R93: FLOW_READ returns the record, and then clears its three counts when its option is given. -/
def State.flowRead (s : State) (i : FlowIndex) (clear : Bool) : State × Answer :=
  (if clear then s.updFlow i (fun r => { r with meas := r.meas.clearCounts }) else s, .ok s.flows[i].image)

/-- R92: FLOW_READ. -/
def runFlowRead (p : List Byte) (s : State) : State × Answer :=
  checked 2 [(1, isFlag (par p 1))] p s (s.flowRead (flowIndexOf (par p 0)) (par p 1 == 1#8))

/-- FLOW_READ (R92). -/
def execFlowRead (s : State) : Host.Outcome State Fault Refusal :=
  .next (s.takeCommand (some .flowRead) runFlowRead)

/-- R90: FLOW_CLEAR clears the valid flag alone and returns its previous value. -/
def State.flowClear (s : State) (i : FlowIndex) : State × Answer :=
  (s.updFlow i (fun r => { r with valid := false }), .ok [flagByte s.flows[i].valid])

/-- R90: FLOW_CLEAR. -/
def runFlowClear (p : List Byte) (s : State) : State × Answer :=
  checked 1 [] p s (s.flowClear (flowIndexOf (par p 0)))

/-- FLOW_CLEAR (R90). -/
def execFlowClear (s : State) : Host.Outcome State Fault Refusal :=
  .next (s.takeCommand (some .flowClear) runFlowClear)

/-- R108: FLOW_REARM of a valid record arms it, or resets its whole measurement record; it returns the notify armed flag
and the non-conforming count as they stood. -/
def State.flowRearm (s : State) (i : FlowIndex) (reset : Bool) : State × Answer :=
  if s.flows[i].valid then
    (s.updFlow i (fun r => { r with meas := if reset then Measurement.armedReset else { r.meas with armed := true } }),
      .ok ([flagByte s.flows[i].meas.armed] ++ be32 s.flows[i].meas.nonConforming))
  else (s, .refuse .notValid 0#8)

/-- R108: FLOW_REARM. -/
def runFlowRearm (p : List Byte) (s : State) : State × Answer :=
  checked 2 [(1, isFlag (par p 1))] p s (s.flowRearm (flowIndexOf (par p 0)) (par p 1 == 1#8))

/-- FLOW_REARM (R108). -/
def execFlowRearm (s : State) : Host.Outcome State Fault Refusal :=
  .next (s.takeCommand (some .flowRearm) runFlowRearm)

end Sys2Proof.Machine
end

