-- ==== Sys2Proof/Machine/PlanCommands.lean ====
section
/-! DEFINITION. The plan and scheduler commands, owned by the cycle scheduler (1.6 and 2.4). -/

namespace Sys2Proof.Machine

/-- R152, R159: a cycle length in 3 bytes. -/
def lengthBytes (n : Nat) : List Byte :=
  be24 (BitVec.ofNat 24 n)

/-- R18: the BANK_BUSY refusal, its detail the state of the named bank. -/
def Sched.bankBusy (c : Sched) (i : BankId) : Answer :=
  .refuse .bankBusy (c.bank i).state.code

/-- R9: the PLAN_INVALID refusal: the reason code, and the entry index as its one data byte. -/
def Answer.planInvalid (f : PlanFault × Nat) : Answer :=
  { status := .planInvalid, detail := f.1.code, data := [BitVec.ofNat 8 f.2] }

/-- R14: entries stored in index order from a first place on. -/
def storeEntries (v : Vector WindowEntry 64) (first : Nat) : List WindowEntry → Vector WindowEntry 64
  | [] => v
  | e :: es => storeEntries (v.setIfInBounds first e) (first + 1) es

/-- R14: the scheduler takes PLAN_WRITE for a FREE bank. -/
def State.planWrite (s : State) (i : BankId) (first : Nat) (es : List WindowEntry) : State × Answer :=
  if (s.sched.bank i).state = .free then
    (s.setSched (s.sched.setBank i { s.sched.bank i with entries := storeEntries (s.sched.bank i).entries first es }),
      .ok [])
  else (s, s.sched.bankBusy i)

/-- R14, R147: PLAN_WRITE with its variable length. -/
def runPlanWrite (p : List Byte) (s : State) : State × Answer :=
  match planWriteBad p with
  | some off => (s, .badParam off)
  | none => s.planWrite (bankOf (par p 0)) (par p 1).toNat (planWriteEntries p)

/-- PLAN_WRITE (R14). -/
def execPlanWrite (s : State) : Host.Outcome State Fault Refusal :=
  .next (s.takeCommand (some .planWrite) runPlanWrite)

/-- R15: the scheduler takes PLAN_LENGTH for a FREE bank. -/
def State.planLength (s : State) (i : BankId) (count : Nat) : State × Answer :=
  if (s.sched.bank i).state = .free then
    (s.setSched (s.sched.setBank i { s.sched.bank i with count := count }),
      .ok (lengthBytes ({ s.sched.bank i with count := count } : Bank).cycleLength))
  else (s, s.sched.bankBusy i)

/-- R15: PLAN_LENGTH. -/
def runPlanLength (p : List Byte) (s : State) : State × Answer :=
  checked 2 [(0, isFlag (par p 0)), (1, decide ((par p 1).toNat ≤ Config.entryPlaces))] p s
    (s.planLength (bankOf (par p 0)) (par p 1).toNat)

/-- PLAN_LENGTH (R15). -/
def execPlanLength (s : State) : Host.Outcome State Fault Refusal :=
  .next (s.takeCommand (some .planLength) runPlanLength)

/-- R16, R152: what PLAN_READ returns of a bank: entry count, state, cycle length and the entries asked for. -/
def Bank.report (b : Bank) (first count : Nat) : List Byte :=
  [BitVec.ofNat 8 b.count, b.state.code] ++ lengthBytes b.cycleLength ++
    ((b.entries.toList.drop first).take count).flatMap WindowEntry.image

/-- R16: PLAN_READ changes nothing. -/
def runPlanRead (p : List Byte) (s : State) : State × Answer :=
  checked 3 (planReadChecks p) p s
    (s, .ok ((s.sched.bank (bankOf (par p 0))).report (par p 1).toNat (par p 2).toNat))

/-- PLAN_READ (R16). -/
def execPlanRead (s : State) : Host.Outcome State Fault Refusal :=
  .next (s.takeCommand (some .planRead) runPlanRead)

/-- R32: the scheduler takes PLAN_COMMIT; its conditions in their order. -/
def State.planCommit (s : State) (i : BankId) (r : CommitRecord) : State × Answer :=
  if s.sched.state = .halted ∨ s.sched.state = .stopping then (s, .refuse .notRunning s.sched.state.code)
  else if (s.sched.bank i).state ≠ .free then (s, s.sched.bankBusy i)
  else match (s.sched.bank i).planFault with
    | some f => (s, .planInvalid f)
    | none =>
      (s.setSched { s.sched.setBankState i .armed with commit := some r },
        .ok (lengthBytes (s.sched.bank i).cycleLength))

/-- R28, R32: PLAN_COMMIT. -/
def runPlanCommit (p : List Byte) (s : State) : State × Answer :=
  checked 3 [(0, isFlag (par p 0)), (1, isFlag (par p 1))] p s
    (s.planCommit (bankOf (par p 0)) { mode := modeOf (par p 1), repeatN := par p 2 })

/-- PLAN_COMMIT (R32). -/
def execPlanCommit (s : State) : Host.Outcome State Fault Refusal :=
  .next (s.takeCommand (some .planCommit) runPlanCommit)

/-- R35: the scheduler takes PLAN_WITHDRAW, by the state of the named bank. -/
def State.planWithdraw (s : State) (i : BankId) : State × Answer :=
  match (s.sched.bank i).state with
  | .armed => (s.setSched { s.sched.setBankState i .free with commit := none }, .ok [])
  | .active => (s, .refuse .tooLate BankState.active.code)
  | .held => (s, .refuse .tooLate BankState.held.code)
  | .free => (s, .refuse .nothingArmed 0#8)

/-- R35: PLAN_WITHDRAW. -/
def runPlanWithdraw (p : List Byte) (s : State) : State × Answer :=
  checked 1 [(0, isFlag (par p 0))] p s (s.planWithdraw (bankOf (par p 0)))

/-- PLAN_WITHDRAW (R35). -/
def execPlanWithdraw (s : State) : Host.Outcome State Fault Refusal :=
  .next (s.takeCommand (some .planWithdraw) runPlanWithdraw)

/-- R29: the scheduler started on a bank. -/
def Sched.started (c : Sched) (i : BankId) : Sched :=
  { c.setBankState i .active with
    state := .running, active := some i, position := 0, cycle := 0#32, startPending := true, excursionLeft := 0#8,
    endRequested := false, stopFromExcursion := false }

/-- R29: the scheduler takes SCHED_START. -/
def State.schedStart (s : State) (i : BankId) : State × Answer :=
  if s.sched.state ≠ .halted then (s, .refuse .alreadyRunning s.sched.state.code)
  else match (s.sched.bank i).planFault with
    | some f => (s, .planInvalid f)
    | none => (s.setSched (s.sched.started i), .ok (lengthBytes (s.sched.bank i).cycleLength))

/-- R29: SCHED_START. -/
def runSchedStart (p : List Byte) (s : State) : State × Answer :=
  checked 1 [(0, isFlag (par p 0))] p s (s.schedStart (bankOf (par p 0)))

/-- SCHED_START (R29). -/
def execSchedStart (s : State) : Host.Outcome State Fault Refusal :=
  .next (s.takeCommand (some .schedStart) runSchedStart)

/-- R30: SCHED_STOP, by the scheduler state when taken. -/
def runSchedStop (_p : List Byte) (s : State) : State × Answer :=
  match s.sched.state with
  | .running => (s.setSched { s.sched with state := .stopping }, .ok [])
  | .excursion => (s.setSched { s.sched with state := .stopping, stopFromExcursion := true }, .ok [])
  | .stopping => (s, .ok [])
  | .halted => (s, .refuse .notRunning SchedState.halted.code)

/-- SCHED_STOP (R30). -/
def execSchedStop (s : State) : Host.Outcome State Fault Refusal :=
  .next (s.takeCommand (some .schedStop) runSchedStop)

/-- R38: EXCURSION_END sets the end-requested flag in EXCURSION. -/
def runExcursionEnd (_p : List Byte) (s : State) : State × Answer :=
  match s.sched.state with
  | .excursion => (s.setSched { s.sched with endRequested := true }, .ok [s.sched.excursionLeft])
  | .halted | .running | .stopping => (s, .refuse .notInExcursion s.sched.state.code)

/-- EXCURSION_END (R38). -/
def execExcursionEnd (s : State) : Host.Outcome State Fault Refusal :=
  .next (s.takeCommand (some .excursionEnd) runExcursionEnd)

end Sys2Proof.Machine
end

