-- ==== Sys2Proof/Machine/PortCommands.lean ====
section
/-! DEFINITION. PORT_SET (R122), PORT_READ (R124, R127, R138, R155) and NOTICE_SET (R163). -/

namespace Sys2Proof.Machine

/-- R122: the settings that PORT_SET replaces together. -/
structure PortTerms where
  enable : Bool
  threshold : Byte
  relay : Bool
  policy : UnknownPolicy
  unknownClass : ClassId
  deriving DecidableEq, Repr

/-- R122: the settings that the parameters of PORT_SET carry. -/
def portTermsOf (p : List Byte) : PortTerms :=
  { enable := par p 1 == 1#8, threshold := par p 2, relay := par p 3 == 1#8, policy := policyOf (par p 4),
    unknownClass := classOf (par p 5) }

/-- R122: a port with its five settings replaced. -/
def Port.withTerms (pt : Port) (t : PortTerms) : Port :=
  { pt with enable := t.enable, threshold := t.threshold, relay := t.relay, policy := t.policy,
            unknownClass := t.unknownClass }

/-- R114: the state that PORT_SET leaves a port in, by the new enable value. -/
def Port.stateAfterSet (pt : Port) (enable : Bool) : PortState :=
  if enable then
    match pt.state with
    | .disabled | .quarantined => if pt.signal then .active else .waiting
    | .waiting => .waiting
    | .active => .active
  else .disabled

/-- R114: a port that PORT_SET moves to a new state has its error streak at 0. -/
def Port.clearStreak (pt : Port) : Port :=
  { pt with streak := 0#8 }

/-- R122: the part after PORT_SET of a port: the settings replaced, the state changed with its flush and its notice. -/
def State.setPort (s : State) (p : PortId) (t : PortTerms) : State :=
  if s.ports[p].stateAfterSet t.enable = s.ports[p].state then s.updPort p (fun pt => pt.withTerms t)
  else (s.updPort p (fun pt => (pt.withTerms t).clearStreak)).enterPort p (s.ports[p].stateAfterSet t.enable) .command

/-- R121, R122: the number of cells that PORT_SET flushes. -/
def Port.flushedBySet (pt : Port) (enable : Bool) : Nat :=
  if pt.stateAfterSet enable = pt.state then 0
  else match pt.stateAfterSet enable with
    | .disabled | .waiting => pt.egress.length
    | .active | .quarantined => 0

/-- R122: PORT_SET as the named port takes it. -/
def State.portSet (s : State) (p : PortId) (t : PortTerms) : State × Answer :=
  (s.setPort p t,
    .ok [(s.ports[p].stateAfterSet t.enable).code, flagByte s.ports[p].signal,
      BitVec.ofNat 8 (s.ports[p].flushedBySet t.enable)])

/-- R122: PORT_SET. -/
def runPortSet (p : List Byte) (s : State) : State × Answer :=
  checked 6 [(0, isBelow 4 (par p 0)), (1, isFlag (par p 1)), (3, isFlag (par p 3)), (4, isFlag (par p 4)),
      (5, isBelow 8 (par p 5))] p s
    (s.portSet (portOf (par p 0)) (portTermsOf p))

/-- PORT_SET (R122). -/
def execPortSet (s : State) : Host.Outcome State Fault Refusal :=
  .next (s.takeCommand (some .portSet) runPortSet)

/-- R155, R160: part 0 of a station port. -/
def Port.reportPart0 (pt : Port) : List Byte :=
  [pt.state.code, flagByte pt.signal, pt.streak, flagByte pt.enable, pt.threshold, flagByte pt.relay, pt.policy.code,
    indexByte pt.unknownClass, BitVec.ofNat 8 pt.egress.length] ++
  be32 pt.counters.received ++ be32 pt.counters.headerErrors ++ be32 pt.counters.cellErrors ++
  be32 pt.counters.kindErrors ++ be32 pt.counters.commandsDropped ++ be32 pt.counters.quarantineDiscards ++
  be32 pt.counters.misrouted

/-- R155, R160: part 1 of a station port. -/
def Port.reportPart1 (pt : Port) : List Byte :=
  [pt.state.code, BitVec.ofNat 8 pt.egress.length] ++
  be32 pt.counters.unknownFlow ++ be32 pt.counters.egressTransmitted ++ be32 pt.counters.egressDropped ++
  be32 pt.counters.flushed

/-- R124, R155: the seven counters of part 0 set to 0. -/
def PortCounters.clearPart0 (n : PortCounters) : PortCounters :=
  { n with received := 0#32, headerErrors := 0#32, cellErrors := 0#32, kindErrors := 0#32, commandsDropped := 0#32,
           quarantineDiscards := 0#32, misrouted := 0#32 }

/-- R124, R155: the four counters of part 1 set to 0. -/
def PortCounters.clearPart1 (n : PortCounters) : PortCounters :=
  { n with unknownFlow := 0#32, egressTransmitted := 0#32, egressDropped := 0#32, flushed := 0#32 }

/-- R127, R155: part 0 of port 4. -/
def Trunk.report (t : Trunk) : List Byte :=
  [flagByte t.signal] ++ be32 t.received ++ be32 t.headerErrors ++ be32 t.cellErrors ++ be32 t.kindErrors ++
  be32 t.transmitted ++ be32 t.idleTransmitted ++ be32 t.signalLosses

/-- R127: the trunk counters set to 0. -/
def Trunk.clearCounters (t : Trunk) : Trunk :=
  { t with received := 0#32, headerErrors := 0#32, cellErrors := 0#32, kindErrors := 0#32, transmitted := 0#32,
           idleTransmitted := 0#32, signalLosses := 0#32 }

/-- R138, R155: part 1 of port 4. -/
def State.forwarderReport (s : State) : List Byte :=
  [flagByte s.trunk.signal] ++ be32 s.df.commandsTaken ++ be32 s.df.commandsRelayed ++
  be32 s.df.commandsUnrelayable ++ be32 s.df.dataForwarded ++ be32 s.df.dataWithoutPorts ++
  be32 s.df.dataUnmatched ++ be32 s.df.misdirected

/-- R124, R155: PORT_READ of a station port. -/
def State.readStation (s : State) (p : PortId) (clear part1 : Bool) : State × Answer :=
  if part1 then
    (if clear then s.countPort p PortCounters.clearPart1 else s, .ok s.ports[p].reportPart1)
  else
    (if clear then s.countPort p PortCounters.clearPart0 else s, .ok s.ports[p].reportPart0)

/-- R127, R138, R155: PORT_READ of port 4, the trunk port and the forwarder. -/
def State.readTrunk (s : State) (clear part1 : Bool) : State × Answer :=
  if part1 then
    (if clear then s.setDf Forwarder.reset else s, .ok s.forwarderReport)
  else
    (if clear then s.setTrunk s.trunk.clearCounters else s, .ok s.trunk.report)

/-- R124, R147, R155: PORT_READ; a command that ends after the clear option is read as part 0. -/
def runPortRead (p : List Byte) (s : State) : State × Answer :=
  checked 2 [(0, isBelow 5 (par p 0)), (1, isFlag (par p 1)), (2, isFlag (par p 2))] p s
    (if par p 0 = 4#8 then s.readTrunk (par p 1 == 1#8) (par p 2 == 1#8)
     else s.readStation (portOf (par p 0)) (par p 1 == 1#8) (par p 2 == 1#8))

/-- PORT_READ (R124, R155). -/
def execPortRead (s : State) : Host.Outcome State Fault Refusal :=
  .next (s.takeCommand (some .portRead) runPortRead)

/-- R163: NOTICE_SET replaces the enable mask, the flag of RESET_DONE staying set, and returns the previous mask. -/
def State.noticeSet (s : State) (byte : Byte) : State × Answer :=
  (s.setNu { s.nu with mask := byte.setWidth 7 ||| 1#7 }, .ok [s.nu.mask.setWidth 8])

/-- R163: NOTICE_SET; a byte with bit 7 set is out of range. -/
def runNoticeSet (p : List Byte) (s : State) : State × Answer :=
  checked 1 [(0, !(par p 0).getLsbD 7)] p s (s.noticeSet (par p 0))

/-- NOTICE_SET (R163). -/
def execNoticeSet (s : State) : Host.Outcome State Fault Refusal :=
  .next (s.takeCommand (some .noticeSet) runNoticeSet)

end Sys2Proof.Machine
end

