-- ==== Sys2Proof/Machine/Resets.lean ====
section
/-! DEFINITION. The five reset rows (R156, R170 to R173). -/

namespace Sys2Proof.Machine

/-- POWER_ON_RESET (R171, R172): the supply is applied or falls out of range. It turns a pin reset in progress into a
power-on reset. -/
def execPowerOnReset (s : State) : Host.Outcome State Fault Refusal :=
  .next (s.holdReset .powerOnReset)

/-- R171: the 2 ms of a power-on reset are over. With the reset pin released it ends, with cause POWER_ON; a pin held low
prolongs it. -/
def State.powerUpOver (s : State) (straps : BitVec 6) (rate : Bool) : State :=
  if s.pins.resetN then s.endPinReset straps rate .powerOn else s.setPhase .powerOnHeld

/-- POWER_ON_RESET_END (R171): the 2 ms of a power-on reset in progress are over (log entry 11). -/
def execPowerOnResetEnd (straps : BitVec 6) (rate : Bool) (s : State) : Host.Outcome State Fault Refusal :=
  .next (match s.phase with
    | .powerOnReset => s.powerUpOver straps rate
    | .powerOnHeld | .pinReset | .running => s)

/-- R171: RESET_N goes low and stays low long enough: it begins a pin reset, is part of a pin reset in progress, or
prolongs a power-on reset. -/
def State.assertResetPin (s : State) : State :=
  if s.phase = .running then (s.setPins { s.pins with resetN := false }).holdReset .pinReset
  else s.setPins { s.pins with resetN := false }

/-- PIN_RESET (R171): a low pulse on RESET_N shorter than 10 µs is ignored. -/
def execPinReset (lowNs : Nat) (s : State) : Host.Outcome State Fault Refusal :=
  .next (if lowNs < Config.shortestResetLowNs then s else s.assertResetPin)

/-- PIN_RESET_END (R171): the release of RESET_N ends a pin reset with cause PIN, and with cause POWER_ON a power-on
reset that the pin alone prolonged. A power-on reset whose 2 ms are not over goes on. -/
def execPinResetEnd (straps : BitVec 6) (rate : Bool) (s : State) : Host.Outcome State Fault Refusal :=
  .next (match s.phase with
    | .pinReset => s.endPinReset straps rate .pin
    | .powerOnReset => s.setPins { s.pins with resetN := true }
    | .powerOnHeld => s.endPinReset straps rate .powerOn
    | .running => s)

/-- MANAGEMENT_RESET (R156): made when the trunk port has finished transmitting the PART_RESET response. -/
def execManagementReset (s : State) : Host.Outcome State Fault Refusal :=
  .next (if s.managementResetDue then s.managementReset else s)

end Sys2Proof.Machine
end

