-- ==== Sys2Proof/Machine/Slot.lean ====
section
/-! DEFINITION. The slot start, the cycle boundary and the service of a slot (Chapters 2 and 3, R125). -/

namespace Sys2Proof.Machine

/-! ### The cycle boundary (R25 to R27) -/

/-- A scheduler with every bank's state changed by `f`; R10: the contents do not change. -/
def Sched.mapStates (c : Sched) (f : BankState → BankState) : Sched :=
  { c with
    bankA := { c.bankA with state := f c.bankA.state }, bankB := { c.bankB with state := f c.bankB.state } }

/-- R25 case 1: the halting boundary. -/
def Sched.haltingBoundary (c : Sched) : Sched :=
  { c.mapStates (fun _ => .free) with
    state := .halted, active := none, position := 0, startPending := false, excursionLeft := 0#8,
    endRequested := false, stopFromExcursion := false, commit := none }

/-- R25 case 2: the ACTIVE bank becomes FREE and the HELD bank ACTIVE. -/
def restoredState : BankState → BankState
  | .active => .free | .held => .active | .armed => .armed | .free => .free

/-- R25 case 2: the boundary that ends an excursion. -/
def Sched.restoringBoundary (c : Sched) : Sched :=
  { c.mapStates restoredState with
    state := .running, active := c.bankIn .held, position := 0, excursionLeft := 0#8, endRequested := false,
    cycle := c.cycle + 1#32 }

/-- R25 case 3: the excursion goes on. -/
def Sched.excursionBoundary (c : Sched) : Sched :=
  { c with position := 0, excursionLeft := c.excursionLeft - 1#8, cycle := c.cycle + 1#32 }

/-- R33: the mode of the commit; PERMANENT where an ARMED bank has no record, which no run reaches (R33, log entry
22). -/
def Sched.commitMode (c : Sched) : CommitMode :=
  match c.commit with
  | some r => r.mode
  | none => .permanent

/-- R33, R37: the repeat value N of the commit. -/
def Sched.commitRepeat (c : Sched) : Byte :=
  match c.commit with
  | some r => r.repeatN
  | none => 0#8

/-- R25 case 4: the ARMED bank becomes ACTIVE; the previously ACTIVE bank becomes FREE or HELD by the mode. -/
def swappedState (mode : CommitMode) : BankState → BankState
  | .armed => .active
  | .active => match mode with
    | .permanent => .free
    | .excursion => .held
  | .held => .held
  | .free => .free

/-- R25 case 4: the swap boundary at which `armed` takes over. -/
def Sched.swapBoundary (c : Sched) (armed : BankId) : Sched :=
  { c.mapStates (swappedState c.commitMode) with
    state := match c.commitMode with
      | .permanent => .running
      | .excursion => .excursion
    excursionLeft := match c.commitMode with
      | .permanent => c.excursionLeft
      | .excursion => c.commitRepeat
    active := some armed, position := 0, commit := none, cycle := c.cycle + 1#32 }

/-- R25 case 5: the cycle number is incremented. -/
def Sched.plainBoundary (c : Sched) : Sched :=
  { c with position := 0, cycle := c.cycle + 1#32 }

/-- R25: the cycle boundary, its first applicable case, with the notice that R27 posts. A HALTED scheduler takes no
boundary (R22). -/
def Sched.boundary (c : Sched) : Sched × Option NoticeBody :=
  match c.state with
  | .stopping =>
    (c.haltingBoundary, some (.schedHalted c.cycle (c.bankIn .armed).isSome c.stopFromExcursion))
  | .excursion =>
    if c.endRequested || c.excursionLeft == 0#8 then
      (c.restoringBoundary, (c.bankIn .held).map (fun restored =>
        .excursionDone restored (if c.endRequested then .requested else .count)))
    else (c.excursionBoundary, none)
  | .running =>
    match c.bankIn .armed with
    | some armed => (c.swapBoundary armed, some (.planSwapped armed c.commitMode (c.cycle + 1#32)))
    | none => (c.plainBoundary, none)
  | .halted => (c, none)

/-! ### The slot start (R21 to R24) -/

/-- R21: the slot clock counts the slot. -/
def Sched.countSlot (c : Sched) : Sched :=
  { c with slotClock := c.slotClock + 1#32 }

/-- R22 to R24: the scheduler at the start of a counted slot, with the notice of a boundary taken at it. -/
def Sched.advance (c : Sched) : Sched × Option NoticeBody :=
  if c.state = .halted then (c, none)
  else if c.startPending then ({ c with startPending := false, position := 0 }, none)
  else if c.boundaryDue then c.boundary
  else ({ c with position := c.position + 1 }, none)

/-- R21 to R25: the part at the start of a slot: the slot is counted, the position advanced, and a boundary that falls
due is taken and its notice posted. -/
def State.beginSlot (s : State) : State :=
  (s.setSched s.sched.countSlot.advance.1).postIf s.sched.countSlot.advance.2

/-- R21 to R25, R162: the same start, its boundary's notice handed over and left for the notice unit to take. -/
def State.beginSlotApart (s : State) : State :=
  (s.setSched s.sched.countSlot.advance.1).handOver s.sched.countSlot.advance.2

/-! ### The service of the slot (R41 to R54, R125) -/

/-- R41: the four sources of a slot's cell. -/
inductive Source where
  | head (k : ClassId)
  | response
  | notice
  | idle
  deriving DecidableEq, Repr

/-- R53: the class that a source grants the slot to. -/
def Source.granted : Source → Option ClassId
  | .head k => some k
  | .response => none
  | .notice => none
  | .idle => none

/-- R49: the free-slot arbiter: a response, else a notice, else the winning class, else an idle cell. -/
def State.freeSource (s : State) : Source :=
  if !s.me.responses.isEmpty then .response
  else if !s.nu.queue.isEmpty then .notice
  else match s.qm.winner with
    | some k => .head k
    | none => .idle

/-- R44 to R46: what a slot's window sends; none when the slot is served as a free slot. -/
def State.windowSource (s : State) : SlotKind → Option Source
  | .free => none
  | .classWindow k reclaim =>
    if !s.qm.classes[k].queue.isEmpty then some (.head k)
    else if reclaim then none
    else some .idle
  | .managementWindow reclaim =>
    if !s.me.responses.isEmpty then some .response
    else if !s.nu.queue.isEmpty then some .notice
    else if reclaim then none
    else some .idle

/-- R112, R125: the trunk port forms the cell with fresh checks, transmits it and counts it. -/
def State.transmit (s : State) (c : Cell) : State :=
  s.setTrunk (match c.kind with
    | .idle => { s.trunk with tx := .sending c.wire, idleTransmitted := satAdd s.trunk.idleTransmitted 1 }
    | .data | .command | .response | .notice =>
      { s.trunk with tx := .sending c.wire, transmitted := satAdd s.trunk.transmitted 1 })

/-- R156: the engine after a response has been handed to the trunk port: when it is that of PART_RESET, the management
reset follows this slot. -/
def Engine.afterSending (m : Engine) (r : Response) (rest : List Response) : Engine :=
  { m with
    responses := rest
    run := if m.run = .resetAnswered ∧ r.code = CommandCode.partReset.code then .resetSent else m.run }

/-- R42: the chosen source gives up its item, which the trunk port transmits. A source with nothing to give, which is
never chosen, gives an idle cell. -/
def State.send (s : State) : Source → State
  | .head k =>
    match s.qm.headCell k with
    | some c => (s.setQm (s.qm.dequeue k)).transmit c
    | none => s.transmit Cell.idle
  | .response =>
    match s.me.responses with
    | r :: rest => (s.setMe (s.me.afterSending r rest)).transmit r.cell
    | [] => s.transmit Cell.idle
  | .notice =>
    match s.nu.queue with
    | n :: rest => (s.setNu { s.nu with queue := rest }).transmit n.cell
    | [] => s.transmit Cell.idle
  | .idle => s.transmit Cell.idle

/-- R48, R53: the service of a free slot, with its age bookkeeping. -/
def State.serveFree (s : State) : State :=
  (s.setQm (s.qm.ageFree s.freeSource.granted)).send s.freeSource

/-- R41, R44 to R48: the service of a slot of a given kind. -/
def State.serve (s : State) (kind : SlotKind) : State :=
  match s.windowSource kind with
  | some src => s.send src
  | none => s.serveFree

/-- R21, R41: one slot start, taken whole. -/
def State.startSlot (s : State) : State :=
  s.beginSlot.serve s.beginSlot.sched.kindHere

/-- R21, R41, R167: one slot start whose boundary's notice the notice unit has still to take. -/
def State.startSlotApart (s : State) : State :=
  s.beginSlotApart.serve s.beginSlotApart.sched.kindHere

/-- R171: a management reset that has fallen due is made between the end of the slot and the next slot start. -/
def State.settleReset (s : State) : State :=
  if s.managementResetDue then s.managementReset else s

/-- SLOT_START (R21): no slot starts while a power-on or pin reset is in progress (R172). A boundary that falls due is
taken, and its posting handed over to the notice unit (R162), which takes it in the slot that the boundary began: with
CYCLE_BOUNDARY, or before the next slot start (R27, log entry 23). -/
def execSlotStart (s : State) : Host.Outcome State Fault Refusal :=
  .next (if s.running then s.takeHanded.settleReset.startSlotApart else s)

/-- CYCLE_BOUNDARY (R23, R25): the slot start at which the boundary is taken, its notice posted, when one is due (log
entry 4). Where a SLOT_START has taken the boundary, the notice unit takes its posting, which so comes before or after
what other blocks post in that slot, as the sender presents them (R162, R167, log entry 23). -/
def execCycleBoundary (s : State) : Host.Outcome State Fault Refusal :=
  .next (if s.running then
    if s.nu.handed.isSome then s.takeHanded
    else if !s.managementResetDue && s.sched.boundaryDue then s.startSlot
    else s
  else s)

end Sys2Proof.Machine
end

