-- ==== Sys2Proof/Machine/StationPorts.lean ====
section
/-! DEFINITION. The station ports' own events: reception, line signal and transmission (7.2 to 7.4). -/

namespace Sys2Proof.Machine

/-- R117: a bad cell is counted under the first check it failed. -/
def PortCounters.countBad (n : PortCounters) : Check → PortCounters
  | .header => { n with headerErrors := satAdd n.headerErrors 1 }
  | .cell => { n with cellErrors := satAdd n.cellErrors 1 }
  | .kind => { n with kindErrors := satAdd n.kindErrors 1 }

/-- R116: a bad cell increments the error streak and is counted. -/
def Port.countBad (pt : Port) (check : Check) : Port :=
  { pt with streak := satAdd pt.streak 1, counters := pt.counters.countBad check }

/-- R116: the threshold is not 0 and the streak is at least the threshold. -/
def Port.overThreshold (pt : Port) : Bool :=
  pt.threshold != 0#8 && decide (pt.threshold.toNat ≤ pt.streak.toNat)

/-- R116, R117: an ACTIVE port takes a bad cell; the streak that reaches the threshold quarantines the port. -/
def State.takeBad (s : State) (p : PortId) (check : Check) : State :=
  if (s.ports[p].countBad check).overThreshold then
    (s.updPort p (fun pt => pt.countBad check)).enterPort p .quarantined .errors
  else s.updPort p (fun pt => pt.countBad check)

/-- R117: a port with a good cell handed on, counted as received; R116: the streak becomes 0. -/
def Port.handOn (pt : Port) (h : HandOff) : Port :=
  { pt with
    streak := 0#8, handoff := pt.handoff ++ [h]
    counters := { pt.counters with received := satAdd pt.counters.received 1 } }

/-- R116, R117: an ACTIVE port takes a good cell in the slot `slot`, by kind. -/
def Port.takeGood (pt : Port) (slot : Word32) (c : Cell) : Port :=
  match c.kind with
  | .idle => { pt with streak := 0#8 }
  | .data => pt.handOn (.classify c.kept slot)
  | .response | .notice => pt.handOn (.offer { cell := c.kept, target := .relay, flow := none, demoted := false })
  | .command =>
    { pt with counters := { pt.counters with commandsDropped := satAdd pt.counters.commandsDropped 1 } }

/-- R118: a good IDLE cell. -/
def Judged.goodIdle : Judged → Bool
  | .good c => c.kind == .idle
  | .bad _ => false

/-- R118: a QUARANTINED port discards and counts every cell but a good IDLE cell. -/
def Port.takeQuarantined (pt : Port) (judged : Judged) : Port :=
  if judged.goodIdle then pt
  else { pt with counters := { pt.counters with quarantineDiscards := satAdd pt.counters.quarantineDiscards 1 } }

/-- R117, R118: a station port takes a received cell, by its state. -/
def State.receiveAt (s : State) (p : PortId) (bytes : List Byte) : State :=
  match s.ports[p].state with
  | .active =>
    match judge (stationAccepts s.ports[p].relay) bytes with
    | .bad check => s.takeBad p check
    | .good c => s.updPort p (fun pt => pt.takeGood s.sched.slotClock c)
  | .quarantined => s.updPort p (fun pt => pt.takeQuarantined (judge (stationAccepts s.ports[p].relay) bytes))
  | .waiting => s
  | .disabled => s

/-- STATION_CELL_RECEIVE (R117): no cell is taken while a power-on or pin reset is in progress (R172). -/
def execStationCellReceive (p : PortId) (bytes : List Byte) (s : State) : Host.Outcome State Fault Refusal :=
  .next (if s.running then s.receiveAt p bytes else s)

/-- 11.7: the line signal of a station link as it now stands. -/
def State.setStationLine (s : State) (p : PortId) (present : Bool) : State :=
  s.setPins { s.pins with stationLine := updateAt s.pins.stationLine p (fun _ => present) }

/-- R114, signal gained: the flag is set, and a WAITING port becomes ACTIVE. -/
def State.gainSignal (s : State) (p : PortId) : State :=
  match s.ports[p].state with
  | .waiting => (s.updPort p (fun pt => { pt with signal := true })).enterPort p .active .signalGained
  | .disabled | .active | .quarantined => s.updPort p (fun pt => { pt with signal := true })

/-- STATION_SIGNAL_GAINED (R114). During a reset only the line changes: the flag is taken from it at the reset's end
(R113, log entry 18). -/
def execStationSignalGained (p : PortId) (s : State) : Host.Outcome State Fault Refusal :=
  .next (if s.running then (s.setStationLine p true).gainSignal p else s.setStationLine p true)

/-- R114, signal lost: the flag is cleared, and an ACTIVE port becomes WAITING. -/
def State.loseSignal (s : State) (p : PortId) : State :=
  match s.ports[p].state with
  | .active => (s.updPort p (fun pt => { pt with signal := false })).enterPort p .waiting .signalLost
  | .disabled | .waiting | .quarantined => s.updPort p (fun pt => { pt with signal := false })

/-- STATION_SIGNAL_LOST (R114). -/
def execStationSignalLost (p : PortId) (s : State) : Host.Outcome State Fault Refusal :=
  .next (if s.running then (s.setStationLine p false).loseSignal p else s.setStationLine p false)

/-- R120: a transmit opportunity: nothing in DISABLED, else the FIFO head, counted, or an idle cell. -/
def Port.transmit (pt : Port) : Port :=
  match pt.state with
  | .disabled => { pt with tx := .silent }
  | .waiting | .active | .quarantined =>
    match pt.egress with
    | [] => { pt with tx := .sending Cell.idle.wire }
    | c :: rest =>
      { pt with
        tx := .sending c.wire, egress := rest
        counters := { pt.counters with egressTransmitted := satAdd pt.counters.egressTransmitted 1 } }

/-- STATION_TRANSMIT (R120): nothing is transmitted while a power-on or pin reset is in progress (R172). -/
def execStationTransmit (p : PortId) (s : State) : Host.Outcome State Fault Refusal :=
  .next (if s.running then s.updPort p Port.transmit else s)

end Sys2Proof.Machine
end

