-- ==== Sys2Proof/Machine/Upstream.lean ====
section
/-! DEFINITION. The upstream path: the arrival monitor (Chapter 6), the flow classifier (5.2) and admission (4.3). -/

namespace Sys2Proof.Machine

/-! ### The arrival monitor (R97 to R106) -/

/-- R103: the verdict on an arrival, with the reason and the measured value of a non-conforming one. -/
inductive Verdict where
  | conforming
  | nonConforming (reason : Reason) (value : Word32)
  deriving DecidableEq, Repr

/-- R98: the slot difference between an arrival in slot `t` and the last one, modulo 2^32. -/
def Measurement.since (m : Measurement) (t : Word32) : Word32 :=
  t - m.lastArrival

/-- R99: a first arrival. -/
def Measurement.first (m : Measurement) (t : Word32) : Measurement :=
  { m with seen := true, currentBurst := 1#16, lastArrival := t }

/-- R100: an arrival in the same burst. -/
def Measurement.joined (m : Measurement) (t : Word32) : Measurement :=
  { m with currentBurst := satAdd m.currentBurst 1, lastArrival := t }

/-- R101: the gap as it is stored, saturating at 16 777 215. -/
def storedGap (d : Word32) : BitVec 24 :=
  BitVec.ofNat 24 (min d.toNat 16777215)

/-- R101: an arrival that begins a new burst completes the burst in progress and measures the gap. -/
def Measurement.renewed (m : Measurement) (t : Word32) : Measurement :=
  { m with
    lastBurst := m.currentBurst
    largestBurst := if m.largestBurst.toNat < m.currentBurst.toNat then m.currentBurst else m.largestBurst
    lastGap := storedGap (m.since t)
    smallestGap := if (storedGap (m.since t)).toNat < m.smallestGap.toNat then storedGap (m.since t) else m.smallestGap
    currentBurst := 1#16, lastArrival := t }

/-- R98: the measures after an arrival in slot `t`, by the record's join gap. -/
def FlowRecord.measured (r : FlowRecord) (t : Word32) : Measurement :=
  if !r.meas.seen then r.meas.first t
  else if (r.meas.since t).toNat ≤ r.terms.joinGap.toNat then r.meas.joined t
  else r.meas.renewed t

/-- R99 to R101, R103: the verdict on an arrival in slot `t`. -/
def FlowRecord.verdict (r : FlowRecord) (t : Word32) : Verdict :=
  if !r.meas.seen then .conforming
  else if (r.meas.since t).toNat ≤ r.terms.joinGap.toNat then
    if r.terms.burstLimit ≠ 0#16 ∧ r.terms.burstLimit.toNat < (satAdd r.meas.currentBurst 1).toNat then
      .nonConforming .burst ((satAdd r.meas.currentBurst 1).setWidth 32)
    else .conforming
  else
    if r.terms.minGap ≠ 0#24 ∧ (r.meas.since t).toNat < r.terms.minGap.toNat then
      .nonConforming .gap (r.meas.since t)
    else .conforming

/-- R102: the verdict is counted. -/
def Measurement.count (m : Measurement) : Verdict → Measurement
  | .conforming => { m with conforming := satAdd m.conforming 1 }
  | .nonConforming _ _ => { m with nonConforming := satAdd m.nonConforming 1 }

/-- R106: the notice that a verdict posts: only a non-conforming arrival of an armed record with notify enable set. -/
def FlowRecord.violation (r : FlowRecord) (i : FlowIndex) : Verdict → Option NoticeBody
  | .conforming => none
  | .nonConforming reason value =>
    if r.terms.notifyEnable && r.meas.armed then some (.flowViolation i r.terms.flowId reason value) else none

/-- R97 to R102, R106: the record after an arrival in slot `t`: measured, counted, and disarmed when the arrival posts
its notice. -/
def FlowRecord.afterArrival (r : FlowRecord) (i : FlowIndex) (t : Word32) : FlowRecord :=
  { r with meas := { (r.measured t).count (r.verdict t) with
      armed := if (r.violation i (r.verdict t)).isSome then false else r.meas.armed } }

/-! ### Classification (R80 to R84) -/

/-- R84: what policing offers of a measured cell. -/
def FlowRecord.policed (r : FlowRecord) (i : FlowIndex) (c : BufCell) : Verdict → Option Offer
  | .conforming => some { cell := c, target := .named r.terms.cls, flow := some i, demoted := false }
  | .nonConforming _ _ =>
    match r.terms.action with
    | .measure => some { cell := c, target := .named r.terms.cls, flow := some i, demoted := false }
    | .demote => some { cell := c, target := .named r.terms.demoteClass, flow := some i, demoted := true }
    | .discard => none

/-- R82: what an unknown-flow cell is offered as, by its arrival port's policy. -/
def Port.unknownOffer (pt : Port) (c : BufCell) : Option Offer :=
  match pt.policy with
  | .discard => none
  | .forward => some { cell := c, target := .named pt.unknownClass, flow := none, demoted := false }

/-- R82: a cell of an unknown flow. -/
def State.unknownFlow (s : State) (p : PortId) (c : BufCell) : State × Option Offer :=
  (s.countPort p (fun n => { n with unknownFlow := satAdd n.unknownFlow 1 }), s.ports[p].unknownOffer c)

/-- R83: a misrouted cell. -/
def State.misroute (s : State) (p : PortId) : State × Option Offer :=
  (s.countPort p (fun n => { n with misrouted := satAdd n.misrouted 1 }), none)

/-- R84, R97 to R106: a cell that passed the source-port check is measured and policed. -/
def State.measureFlow (s : State) (i : FlowIndex) (c : BufCell) (t : Word32) : State × Option Offer :=
  ((s.updFlow i (fun r => r.afterArrival i t)).postIf (s.flows[i].violation i (s.flows[i].verdict t)),
    s.flows[i].policed i c (s.flows[i].verdict t))

/-- R80 to R84: lookup, source-port check, measurement and policing, as one step; the offer it ends with, if any. -/
def State.classify (s : State) (p : PortId) (c : BufCell) (t : Word32) : State × Option Offer :=
  match lookupFlow s.flows c.flowId with
  | none => s.unknownFlow p c
  | some i =>
    if !s.flows[i].terms.upstream then s.unknownFlow p c
    else if s.flows[i].terms.sourcePort ≠ p then s.misroute p
    else s.measureFlow i c t

/-- The oldest cell of a hand-off list that waits for the classifier. -/
def firstUnclassified : List HandOff → Option (BufCell × Word32)
  | [] => none
  | .classify c t :: _ => some (c, t)
  | .offer _ :: rest => firstUnclassified rest

/-- A hand-off list after its oldest unclassified cell was taken: the offer stands in the cell's place, so that the
queue manager takes the port's offers in the order received (R63); a dropped cell leaves it. -/
def settleFirst (result : Option Offer) : List HandOff → List HandOff
  | [] => []
  | .classify _ _ :: rest =>
    match result with
    | some o => .offer o :: rest
    | none => rest
  | .offer o :: rest => .offer o :: settleFirst result rest

/-- R80: the classifier takes the oldest unclassified cell of an arrival port. -/
def State.classifyNext (s : State) (p : PortId) : State :=
  match firstUnclassified s.ports[p].handoff with
  | none => s
  | some (c, t) =>
    (s.classify p c t).1.updPort p (fun pt => { pt with handoff := settleFirst (s.classify p c t).2 pt.handoff })

/-- UPSTREAM_CLASSIFICATION (R80): with no cell waiting there, the event does not arise (log entry 3). -/
def execUpstreamClassification (p : PortId) (s : State) : Host.Outcome State Fault Refusal :=
  .next (if s.running then s.classifyNext p else s)

/-! ### Admission (R63 to R66, R85, R107) -/

/-- R107: the buffer-drop count of a record. -/
def FlowRecord.countDrop (r : FlowRecord) : FlowRecord :=
  { r with meas := { r.meas with bufferDrops := satAdd r.meas.bufferDrops 1 } }

/-- R65, R85, R107: a dropped offer that carries the flow flag is counted on the record at its index. -/
def State.countFlowDrop (s : State) (o : Offer) : State :=
  match o.flow with
  | some i => s.updFlow i FlowRecord.countDrop
  | none => s

/-- R64, R65: the queue manager takes an offer. -/
def State.takeOffer (s : State) (o : Offer) : State :=
  if s.qm.admits o then s.setQm (s.qm.take o) else (s.setQm (s.qm.take o)).countFlowDrop o

/-- R63: the queue manager takes the oldest offer of a port; a cell received before it that is still to be classified
holds it back (log entry 14). -/
def State.admitNext (s : State) (p : PortId) : State :=
  match s.ports[p].handoff with
  | .offer o :: rest => (s.updPort p (fun pt => { pt with handoff := rest })).takeOffer o
  | .classify _ _ :: _ => s
  | [] => s

/-- CELL_ADMISSION (R64): with no offer at the front, the event does not arise (log entry 3). -/
def execCellAdmission (p : PortId) (s : State) : Host.Outcome State Fault Refusal :=
  .next (if s.running then s.admitNext p else s)

end Sys2Proof.Machine
end

