-- ==== Sys2Proof/Machine/Dispatch.lean ====
section
/-! DEFINITION. One arm for each row of spec/opcode_table.json. -/

namespace Sys2Proof.Machine

/-- The effect of a row on everything but the queue of waiting rows. -/
def exec (i : Instr) (s : State) : Host.Outcome State Fault Refusal :=
  match i with
  | .powerOnReset => Sys2Proof.Machine.execPowerOnReset s
  | .powerOnResetEnd straps rate => Sys2Proof.Machine.execPowerOnResetEnd straps rate s
  | .pinReset lowNs => Sys2Proof.Machine.execPinReset lowNs s
  | .pinResetEnd straps rate => Sys2Proof.Machine.execPinResetEnd straps rate s
  | .managementReset => Sys2Proof.Machine.execManagementReset s
  | .slotStart => Sys2Proof.Machine.execSlotStart s
  | .cycleBoundary => Sys2Proof.Machine.execCycleBoundary s
  | .stationCellReceive port bytes => Sys2Proof.Machine.execStationCellReceive port bytes s
  | .stationSignalGained port => Sys2Proof.Machine.execStationSignalGained port s
  | .stationSignalLost port => Sys2Proof.Machine.execStationSignalLost port s
  | .stationTransmit port => Sys2Proof.Machine.execStationTransmit port s
  | .upstreamClassification port => Sys2Proof.Machine.execUpstreamClassification port s
  | .cellAdmission port => Sys2Proof.Machine.execCellAdmission port s
  | .trunkCellReceive bytes => Sys2Proof.Machine.execTrunkCellReceive bytes s
  | .trunkSignalChange up => Sys2Proof.Machine.execTrunkSignalChange up s
  | .downstreamForward => Sys2Proof.Machine.execDownstreamForward s
  | .badCommand => Sys2Proof.Machine.execBadCommand s
  | .echo => Sys2Proof.Machine.execEcho s
  | .identify => Sys2Proof.Machine.execIdentify s
  | .status => Sys2Proof.Machine.execStatus s
  | .planWrite => Sys2Proof.Machine.execPlanWrite s
  | .planLength => Sys2Proof.Machine.execPlanLength s
  | .planRead => Sys2Proof.Machine.execPlanRead s
  | .planCommit => Sys2Proof.Machine.execPlanCommit s
  | .planWithdraw => Sys2Proof.Machine.execPlanWithdraw s
  | .schedStart => Sys2Proof.Machine.execSchedStart s
  | .schedStop => Sys2Proof.Machine.execSchedStop s
  | .excursionEnd => Sys2Proof.Machine.execExcursionEnd s
  | .flowWrite => Sys2Proof.Machine.execFlowWrite s
  | .flowRead => Sys2Proof.Machine.execFlowRead s
  | .flowClear => Sys2Proof.Machine.execFlowClear s
  | .flowRearm => Sys2Proof.Machine.execFlowRearm s
  | .classSet => Sys2Proof.Machine.execClassSet s
  | .classRead => Sys2Proof.Machine.execClassRead s
  | .classFlush => Sys2Proof.Machine.execClassFlush s
  | .relaySet => Sys2Proof.Machine.execRelaySet s
  | .portSet => Sys2Proof.Machine.execPortSet s
  | .portRead => Sys2Proof.Machine.execPortRead s
  | .noticeSet => Sys2Proof.Machine.execNoticeSet s
  | .partReset => Sys2Proof.Machine.execPartReset s

end Sys2Proof.Machine
end

