-- ==== Sys2Proof/Safety.lean ====
section
/-! DEFINITION. What a safe run is: the laws the manual says "hold in every state of the part". -/

namespace Sys2Proof.Machine

/-- R12: the pairs of bank states that go with each scheduler state, one bank first. -/
def pairAllowed : SchedState → BankState → BankState → Bool
  | .halted, .free, .free => true
  | .running, .active, .free => true
  | .running, .active, .armed => true
  | .excursion, .active, .held => true
  | .stopping, .active, .free => true
  | .stopping, .active, .armed => true
  | .stopping, .active, .held => true
  | _, _, _ => false

/-- R12, R19, R23, R26, R33: the laws of the scheduler and its banks. -/
structure SchedLaws (c : Sched) : Prop where
  /-- R12: the banks are in a pair of states that the scheduler state allows; either bank may take either role -/
  pair : pairAllowed c.state c.bankA.state c.bankB.state = true ∨ pairAllowed c.state c.bankB.state c.bankA.state = true
  /-- R19: the active bank is the ACTIVE one, and there is none in HALTED -/
  active : ∀ i, c.active = some i ↔ (c.bank i).state = .active
  /-- R12: the contents of a bank that is not FREE are a valid plan -/
  contents : ∀ i, (c.bank i).state ≠ .free → (c.bank i).planFault = none
  /-- R10: the entry count is 0 to 64 -/
  counts : ∀ i, (c.bank i).count ≤ 64
  /-- R23: while the scheduler is not HALTED, position is less than the cycle length of the active bank -/
  position : c.state ≠ .halted → c.position < c.activeLength
  /-- R19, R22: position is 0 in HALTED, and the start-pending flag is clear -/
  halted : c.state = .halted → c.position = 0 ∧ c.startPending = false
  /-- R24: position is 0 while the start-pending flag is set -/
  pending : c.startPending = true → c.position = 0
  /-- R33: the commit record exists while a bank is ARMED -/
  commit : c.commit.isSome = true ↔ ∃ i, (c.bank i).state = .armed
  /-- R26: excursion cycles left is non-zero only while a bank is HELD -/
  left : c.excursionLeft ≠ 0#8 → ∃ i, (c.bank i).state = .held
  /-- R26: the end-requested flag is set only while a bank is HELD -/
  request : c.endRequested = true → ∃ i, (c.bank i).state = .held
  /-- R19, R26: the stop-from-excursion flag marks a STOPPING scheduler with a HELD bank -/
  cut : c.stopFromExcursion = true ↔ c.state = .stopping ∧ ∃ i, (c.bank i).state = .held

/-- The buffer indices that the descriptors of the eight queues name. -/
def QueueManager.queued (q : QueueManager) : List (Fin 512) :=
  q.classes.toList.flatMap (fun c => c.queue.map Descriptor.index)

/-- R54, R59 to R61: the laws of the queue manager. -/
structure QueueLaws (q : QueueManager) : Prop where
  /-- R59: each buffer cell is on the free list or named by exactly one descriptor, and not both -/
  partition : (q.free ++ q.queued).Perm (List.finRange 512)
  /-- R61: the occupancy of a class is at most its buffer limit -/
  limits : ∀ k : ClassId, q.classes[k].occupancy ≤ q.classes[k].limit
  /-- R61: a buffer limit is 0 to 512 -/
  ranges : ∀ k : ClassId, q.classes[k].limit ≤ 512
  /-- R54: an empty class has age 0 -/
  ages : ∀ k : ClassId, q.classes[k].queue = [] → q.classes[k].age = 0#8

/-- R77, R78: the laws of the flow table. -/
structure FlowLaws (v : Vector FlowRecord 256) : Prop where
  /-- R78: a valid record carries a flow ID of 1 to 4094 -/
  ids : ∀ i : FlowIndex, v[i].valid = true → v[i].terms.flowId ≠ 0#12 ∧ v[i].terms.flowId ≠ 4095#12
  /-- R78: no two valid records carry the same flow ID -/
  unique : ∀ i j : FlowIndex, v[i].valid = true → v[j].valid = true →
    v[i].terms.flowId = v[j].terms.flowId → i = j
  /-- R77: the join gap of a valid record is at least 1 -/
  gaps : ∀ i : FlowIndex, v[i].valid = true → v[i].terms.joinGap ≠ 0#8

/-- R113, R114, R119, R121: the laws of one station port whose line has signal exactly when `line`. -/
structure PortLaws (pt : Port) (line : Bool) : Prop where
  /-- R113: the port is DISABLED exactly when the enable setting is clear -/
  enable : pt.state = .disabled ↔ pt.enable = false
  /-- R121: the egress FIFO is empty whenever the port is DISABLED or WAITING -/
  fifo : pt.state = .disabled ∨ pt.state = .waiting → pt.egress = []
  /-- R114: the error streak is 0 in DISABLED and WAITING -/
  streak : pt.state = .disabled ∨ pt.state = .waiting → pt.streak = 0#8
  /-- R113: the FIFO holds 0 to 32 cells -/
  places : pt.egress.length ≤ 32
  /-- R114: an ACTIVE port has signal and a WAITING port has none -/
  signal : (pt.state = .active → pt.signal = true) ∧ (pt.state = .waiting → pt.signal = false)
  /-- R113: the signal flag is the presence of line signal -/
  line : pt.signal = line

/-- R113, R127: the laws of the station ports and of the trunk signal while no power-on or pin reset is in progress. -/
structure LinkLaws (s : State) : Prop where
  ports : s.phase = .running → ∀ p : PortId, PortLaws s.ports[p] s.pins.stationLine[p]
  trunk : s.phase = .running → s.trunk.signal = s.pins.trunkLine

/-- R140, R142 to R144, R149, R163, R164: the laws of the engine and of the notice unit. -/
structure ManagementLaws (s : State) : Prop where
  /-- R140: the node address is that of the sampled strap value -/
  node : s.me.nodeAddr = nodeAddressOf s.me.straps
  /-- R143 -/
  commands : s.me.commands.length ≤ 4
  /-- R144 -/
  responses : s.me.responses.length ≤ 8
  /-- R142: a record carries 0 to 40 data bytes -/
  data : ∀ r ∈ s.me.responses, r.data.length ≤ 40
  /-- R149: the cache holds a record with the replayed flag clear, under the record's own sequence number -/
  cache : ∀ e, s.me.cache = some e → e.record.replayed = false ∧ e.record.seq = e.seq ∧ e.record.data.length ≤ 40
  /-- R164 -/
  notices : s.nu.queue.length ≤ 16
  /-- R163: the flag of RESET_DONE is always set -/
  resetDone : s.nu.mask.getLsbD 0 = true

end Sys2Proof.Machine
end

