-- ==== Sys2Proof/Certificates/Slice0/Obligations.lean ====
section
/-! DEFINITION. The statements for the provers, from the numbered rules of spec/. Each docstring names the rules. The
helpers of the first section only write out states; every statement compares what `exec` or a named operation answers
with a state written out here. -/

namespace Sys2Proof.Claims

open Sys2Proof.Machine

/-- R145: the engine may take a command, and `c` is the oldest one. -/
abbrev Ready (s : State) (c : Command) (rest : List Command) : Prop :=
  s.phase = .running ∧ s.me.run = .taking ∧ s.me.responses.length < 8 ∧ s.me.commands = c :: rest

/-- R146: the oldest command is not short, is the command `k`, and does not repeat the cached sequence number. -/
abbrev Fresh (s : State) (c : Command) (rest : List Command) (k : CommandCode) : Prop :=
  Ready s c rest ∧ 3 ≤ c.len.toNat ∧ c.codeByte = k.code ∧ s.me.cache.map CacheEntry.seq ≠ some c.seq

/-- R142: the response record of a command. -/
def record (s : State) (c : Command) (cycle : Word32) (status : Status) (detail : Byte) (data : List Byte) : Response :=
  { node := s.me.nodeAddr, seq := c.seq, code := c.codeByte, status := status, detail := detail, replayed := false,
    cycle := cycle, data := data }

/-- R145, R148, R149: the engine after it took the command `c` and answered it: the command removed, the record appended
and cached. -/
def engineAfter (s : State) (c : Command) (rest : List Command) (cycle : Word32) (status : Status) (detail : Byte)
    (data : List Byte) : Engine :=
  { s.me with
    commands := rest, responses := s.me.responses ++ [record s c cycle status detail data]
    cache := some { seq := c.seq, record := record s c cycle status detail data } }

/-- The engine after an OK answer under the present cycle number. -/
def okAfter (s : State) (c : Command) (rest : List Command) (data : List Byte) : Engine :=
  engineAfter s c rest s.sched.cycle .ok 0#8 data

/-- The part after a refusal: nothing but the engine changes (R147, R151). -/
def refused (s : State) (c : Command) (rest : List Command) (status : Status) (detail : Byte) (data : List Byte) :
    State :=
  { s with me := engineAfter s c rest s.sched.cycle status detail data }

/-- R161, R162: the notice unit after a posting taken in the slot of slot clock value `clock`. -/
def posted (s : State) (clock : Word32) (body : NoticeBody) : NoticeUnit :=
  if s.nu.mask.getLsbD body.kindCode = false then s.nu
  else if 16 ≤ s.nu.queue.length then { s.nu with lost := true }
  else
    { s.nu with
      queue := s.nu.queue ++
        [{ node := s.me.nodeAddr, seq := s.nu.seq, lost := s.nu.lost, stamp := clock, body := body }]
      lost := false, seq := s.nu.seq + 1#8 }

/-- R125: the trunk port after it transmitted a cell. -/
def sent (t : Trunk) (c : Cell) : Trunk :=
  if c.kind = .idle then { t with tx := .sending c.wire, idleTransmitted := satAdd t.idleTransmitted 1 }
  else { t with tx := .sending c.wire, transmitted := satAdd t.transmitted 1 }

/-- R53: the classes after a free slot granted to `granted`, or to no class. -/
def aged (q : QueueManager) (granted : Option ClassId) : Vector ClassQueue 8 :=
  Vector.ofFn (fun k : ClassId =>
    if q.classes[k].eligible = true ∧ q.classes[k].queue ≠ [] then
      { q.classes[k] with age := if granted = some k then 0#8 else satAdd q.classes[k].age 1 }
    else q.classes[k])

/-- R67: the queue manager after the dequeue of the head `d` of class `k`, `ds` remaining. -/
def dequeued (q : QueueManager) (k : ClassId) (d : Descriptor) (ds : List Descriptor) : QueueManager :=
  { q with
    free := q.free ++ [d.index]
    classes := updateAt q.classes k (fun c =>
      { c with queue := ds, transmitted := satAdd c.transmitted 1, age := if ds = [] then 0#8 else c.age }) }

/-- R22, R167, R171: no reset is in progress, no management reset has fallen due, and no posting of a boundary waits for
the notice unit. -/
abbrev Slotting (s : State) : Prop :=
  s.phase = .running ∧ s.me.run ≠ .resetSent ∧ s.nu.handed = none

/-- R23: a slot start taken now ends the cycle of the active bank `bk`. -/
abbrev CycleEnds (s : State) (bk : BankId) : Prop :=
  Slotting s ∧ s.sched.startPending = false ∧ s.sched.active = some bk ∧
    s.sched.position + 1 = (s.sched.bank bk).cycleLength

/-- R27, R162, R167: what the rows that take a boundary answer when it leaves the scheduler at `c`, posts `body` and begins
a slot of a kind: with CYCLE_BOUNDARY the notice unit takes the posting before the slot is served, with SLOT_START it has
still to take it. -/
def announced (s : State) (c : Sched) (body : NoticeBody) (kind : SlotKind) : Prop :=
  exec .cycleBoundary s = .next (State.serve { s with sched := c, nu := posted s c.slotClock body } kind) ∧
  exec .slotStart s = .next (State.serve { s with sched := c, nu := { s.nu with handed := some body } } kind)

/-- R27: what they answer when it posts nothing. -/
def unannounced (s : State) (c : Sched) (kind : SlotKind) : Prop :=
  exec .cycleBoundary s = .next (State.serve { s with sched := c } kind) ∧
  exec .slotStart s = .next (State.serve { s with sched := c } kind)

/-- R119: a port after the offer of a downstream cell. -/
def offered (pt : Port) (c : Cell) : Port :=
  if (pt.state = .active ∨ pt.state = .quarantined) ∧ pt.egress.length < 32 then { pt with egress := pt.egress ++ [c] }
  else { pt with counters := { pt.counters with egressDropped := satAdd pt.counters.egressDropped 1 } }

/-- R121: a port that entered DISABLED or WAITING. -/
def flushedInto (pt : Port) (new : PortState) : Port :=
  { pt with
    state := new, streak := 0#8, egress := [], tx := pt.tx.cutShort
    counters := { pt.counters with flushed := satAdd pt.counters.flushed pt.egress.length } }

/-- R172: the part with every block held at its reset values, the links silent. -/
def held (s : State) (phase : Phase) (pins : Pins) (t : State) : Prop :=
  t.phase = phase ∧ t.pins = pins ∧ t.sched = Sched.reset ∧ t.qm = QueueManager.reset ∧
    t.flows = Vector.replicate 256 FlowRecord.reset ∧ t.df = Forwarder.reset ∧
    (∀ p : PortId, t.ports[p] = { Port.reset s.ports[p].signal with tx := s.ports[p].tx.cutShort }) ∧
    t.trunk = { Trunk.reset s.trunk.signal with tx := s.trunk.tx.cutShort } ∧
    (∀ w, t.trunk.tx ≠ .sending w) ∧ (∀ p : PortId, ∀ w, t.ports[p].tx ≠ .sending w) ∧
    t.me.commands = [] ∧ t.me.responses = [] ∧ t.me.cache = none ∧ t.me.commandDrops = 0#16 ∧ t.me.run = .taking ∧
    t.nu.queue = [] ∧ t.nu.mask = 0x7F#7 ∧ t.nu.lost = false ∧ t.nu.handed = none ∧ t.pending = s.pending

/-- R173: the part at the end of a reset. -/
def restarted (s : State) (pins : Pins) (node : Byte) (straps : BitVec 6) (rate : Bool) (cause : ResetCause)
    (trunkTx : LinkOut) (t : State) : Prop :=
  t.phase = .running ∧ t.pins = pins ∧ t.sched = Sched.reset ∧ t.qm = QueueManager.reset ∧
    t.flows = Vector.replicate 256 FlowRecord.reset ∧ t.df = Forwarder.reset ∧
    (∀ p : PortId, t.ports[p] = { Port.reset pins.stationLine[p] with tx := t.ports[p].tx }) ∧
    (∀ p : PortId, ∀ w, t.ports[p].tx ≠ .sending w) ∧
    t.trunk = { Trunk.reset pins.trunkLine with tx := trunkTx } ∧
    t.me = { nodeAddr := node, straps := straps, rate := rate, cause := cause, commands := [], responses := [],
             cache := none, commandDrops := 0#16, run := .taking } ∧
    t.nu = { queue := [{ node := node, seq := 0#8, lost := false, stamp := 0#32, body := .resetDone cause }],
             mask := 0x7F#7, lost := false, seq := 1#8, handed := none } ∧
    t.pending = s.pending

/-- R7: checks 2a to 2d of one entry. -/
abbrev EntryFits (e : WindowEntry) : Prop :=
  (1 ≤ e.span.toNat ∧ e.span.toNat ≤ 1024) ∧ e.openLen.toNat ≤ e.span.toNat ∧ e.owner.toNat ≤ 8 ∧
    e.alignment.toNat ≤ 2

/-- The rows of the 23 commands of R152. -/
def commandRows : List (Instr × CommandCode) :=
  [(.echo, .echo), (.identify, .identify), (.status, .status), (.planWrite, .planWrite), (.planLength, .planLength),
    (.planRead, .planRead), (.planCommit, .planCommit), (.planWithdraw, .planWithdraw), (.schedStart, .schedStart),
    (.schedStop, .schedStop), (.excursionEnd, .excursionEnd), (.flowWrite, .flowWrite), (.flowRead, .flowRead),
    (.flowClear, .flowClear), (.flowRearm, .flowRearm), (.classSet, .classSet), (.classRead, .classRead),
    (.classFlush, .classFlush), (.relaySet, .relaySet), (.portSet, .portSet), (.portRead, .portRead),
    (.noticeSet, .noticeSet), (.partReset, .partReset)]

/-- R152: the codes of the 23 commands, in the order of the catalogue. -/
def commandBytes : List Byte :=
  [0x01#8, 0x02#8, 0x03#8, 0x10#8, 0x11#8, 0x12#8, 0x13#8, 0x14#8, 0x15#8, 0x16#8, 0x17#8, 0x20#8, 0x21#8, 0x22#8,
    0x23#8, 0x30#8, 0x31#8, 0x32#8, 0x33#8, 0x40#8, 0x41#8, 0x50#8, 0x7F#8]

/-- R158: cell bytes 0 to 6. -/
def headerOf (c : Cell) : List Byte :=
  [match c.kind with | .idle => 0#8 | .data => 1#8 | .command => 2#8 | .response => 3#8 | .notice => 4#8,
    BitVec.ofNat 8 ((if c.demoted then 128 else 0) + c.flowId.toNat / 256), BitVec.ofNat 8 (c.flowId.toNat % 256),
    c.len, 0#8, 0#8, 0#8]

/-- R151: the code of a status. -/
def statusByte : Status → Byte
  | .ok => 0#8 | .badCommand => 1#8 | .badParam => 2#8 | .bankBusy => 3#8 | .planInvalid => 4#8
  | .notRunning => 5#8 | .alreadyRunning => 6#8 | .tooLate => 7#8 | .nothingArmed => 8#8 | .notInExcursion => 9#8
  | .duplicateFlow => 10#8 | .reservedFlow => 11#8 | .notValid => 12#8 | .limitBelowOccupancy => 13#8

/-- R142, R159: the payload of a response. -/
def responseBytes (r : Response) : List Byte :=
  [r.node, r.seq, r.code, statusByte r.status, r.detail, if r.replayed then 1#8 else 0#8] ++ be32 r.cycle ++ r.data

/-- R159: the code of a notice's kind, and its kind fields. The two flags of SCHED_HALTED: log entry 24. -/
def kindFields : NoticeBody → Byte × List Byte
  | .resetDone cause => (0#8, [match cause with | .powerOn => 0#8 | .pin => 1#8 | .management => 2#8])
  | .planSwapped bank mode cycle =>
    (1#8, [match bank with | .a => 0#8 | .b => 1#8, match mode with | .permanent => 0#8 | .excursion => 1#8] ++
      be32 cycle)
  | .excursionDone bank cause =>
    (2#8, [match bank with | .a => 0#8 | .b => 1#8, match cause with | .count => 0#8 | .requested => 1#8])
  | .schedHalted last abandoned cut =>
    (3#8, be32 last ++ [if abandoned then 1#8 else 0#8, if cut then 1#8 else 0#8])
  | .flowViolation index flowId reason value =>
    (4#8, [BitVec.ofNat 8 index.val] ++ be16 (flowId.setWidth 16) ++
      [match reason with | .burst => 1#8 | .gap => 2#8] ++ be32 value)
  | .portState port state cause =>
    (5#8, [BitVec.ofNat 8 port.val,
      match state with | .disabled => 0#8 | .waiting => 1#8 | .active => 2#8 | .quarantined => 3#8,
      match cause with | .command => 0#8 | .signalGained => 1#8 | .signalLost => 2#8 | .errors => 3#8])
  | .trunkState up => (6#8, [if up then 1#8 else 0#8])

/-- R159, R161: the payload of a notice. -/
def noticeBytes (n : Notice) : List Byte :=
  [n.node, n.seq, (kindFields n.body).1, if n.lost then 1#8 else 0#8] ++ be32 n.stamp ++ (kindFields n.body).2

/-- R160: the 40 bytes of a flow record that FLOW_READ returns. Bits 3 and 2 of byte 3 and bits 7 and 3 of byte 4, to
which R160 gives no value, are 0 (the model's choice, log entry 25). -/
def flowBytes (r : FlowRecord) : List Byte :=
  let bit (b : Bool) (n : Nat) : Nat := if b then 2 ^ n else 0
  [BitVec.ofNat 8 (bit r.valid 0 + bit r.terms.upstream 1 + bit r.terms.notifyEnable 2 + bit r.meas.seen 3 +
      bit r.meas.armed 4)] ++
    be16 (r.terms.flowId.setWidth 16) ++
    [BitVec.ofNat 8 (r.terms.sourcePort.val + 16 * r.terms.mask.toNat),
      BitVec.ofNat 8 (r.terms.cls.val + 16 * r.terms.demoteClass.val),
      match r.terms.action with | .measure => 0#8 | .demote => 1#8 | .discard => 2#8,
      r.terms.joinGap] ++
    be16 r.terms.burstLimit ++ be24 r.terms.minGap ++ be32 r.meas.lastArrival ++ be16 r.meas.currentBurst ++
    be16 r.meas.lastBurst ++ be24 r.meas.lastGap ++ be24 r.meas.smallestGap ++ be16 r.meas.largestBurst ++
    be32 r.meas.conforming ++ be32 r.meas.nonConforming ++ be32 r.meas.bufferDrops

/-- R158: the number that the `size` bytes at an offset hold, most significant first. -/
def number (p : List Byte) (off size : Nat) : Nat :=
  (List.range size).foldl (fun n i => 256 * n + (p.getD (off + i) 0#8).toNat) 0

/-- The product over GF(2) of the polynomial with the coefficients `q`, highest power first, by the polynomial whose
coefficients are the bits of `poly`. -/
def binaryProduct (q : List Bool) (poly : Nat) : Nat :=
  q.foldl (fun product bit => (2 * product) ^^^ (if bit then poly else 0)) 0

/-- R158: `r` is the remainder of a division over GF(2) by a polynomial of degree `w`, `poly` with its highest term: what
is divided is the bytes, most significant bit first, above `w` zero bits, with the bits of `start` added to their first
`w` (log entry 20). A remainder below 2^w is the only one. -/
def isRemainder (w poly start : Nat) (bytes : List Byte) (r : BitVec w) : Prop :=
  ∃ q : List Bool,
    binaryProduct q poly ^^^ r.toNat = (number bytes 0 bytes.length <<< w) ^^^ (start <<< (8 * bytes.length))

/-- A parameter: its offset, its size in bytes, and the least and the greatest value of its range. -/
abbrev Range := Nat × Nat × Nat × Nat

/-- Whether the parameters hold a value in the range of one of them. -/
def inRange (p : List Byte) (r : Range) : Bool :=
  decide (r.2.2.1 ≤ number p r.1 r.2.1 ∧ number p r.1 r.2.1 ≤ r.2.2.2)

/-- R152 and the owners' rules: the commands of fixed parameter length whose ranges stand each for itself: the row, the
command, the number of bytes it needs (for PORT_READ those it cannot do without), and the ranges in order of offset;
a parameter that takes every value has none. -/
def parameterRanges : List (Instr × CommandCode × Nat × List Range) :=
  [(.status, .status, 1, [(0, 1, 0, 1)]),
    (.planLength, .planLength, 2, [(0, 1, 0, 1), (1, 1, 0, 64)]),
    (.planCommit, .planCommit, 3, [(0, 1, 0, 1), (1, 1, 0, 1)]),
    (.planWithdraw, .planWithdraw, 1, [(0, 1, 0, 1)]),
    (.schedStart, .schedStart, 1, [(0, 1, 0, 1)]),
    (.flowWrite, .flowWrite, 16, [(1, 2, 0, 4095), (3, 1, 0, 1), (4, 1, 0, 3), (5, 1, 0, 7), (6, 1, 0, 2),
      (7, 1, 0, 7), (8, 1, 1, 255), (14, 1, 0, 1), (15, 1, 0, 15)]),
    (.flowRead, .flowRead, 2, [(1, 1, 0, 1)]),
    (.flowClear, .flowClear, 1, []),
    (.flowRearm, .flowRearm, 2, [(1, 1, 0, 1)]),
    (.classSet, .classSet, 6, [(0, 1, 0, 7), (1, 2, 0, 512), (3, 1, 0, 7), (5, 1, 0, 1)]),
    (.classRead, .classRead, 2, [(0, 1, 0, 7), (1, 1, 0, 1)]),
    (.classFlush, .classFlush, 1, [(0, 1, 0, 7)]),
    (.relaySet, .relaySet, 1, [(0, 1, 0, 7)]),
    (.portSet, .portSet, 6, [(0, 1, 0, 3), (1, 1, 0, 1), (3, 1, 0, 1), (4, 1, 0, 1), (5, 1, 0, 7)]),
    (.portRead, .portRead, 2, [(0, 1, 0, 4), (1, 1, 0, 1), (2, 1, 0, 1)]),
    (.noticeSet, .noticeSet, 1, [(0, 1, 0, 127)])]

end Sys2Proof.Claims

open Sys2Proof Sys2Proof.Machine Sys2Proof.Claims

/-! ### The step -/

/-- A step takes the row at the front of the queue, on the part with the queue's rest; with none waiting the part
idles (the model's choice, log entry 2). -/
def Obligations.StepTakesTheFrontRow : Prop :=
  (∀ (s : State) (i : Instr) (rest : List Instr), s.pending = i :: rest →
    step s = exec i { s with pending := rest }) ∧
  ∀ s : State, s.pending = [] → step s = .next s

/-- Every row answers a next state, the part having no fault and no refusal (the model's reading, log entry 17), and no
row touches the queue of waiting rows (the model's own field, log entry 2). -/
def Obligations.EveryRowCompletesAndKeepsTheQueue : Prop :=
  ∀ (i : Instr) (s : State), ∃ t, exec i s = .next t ∧ t.pending = s.pending

/-! ### Resets -/

/-- R10, R20, R61, R62, R79, R96, R113, R127, R138, R143, R149, R168: every value that a reset leaves in the blocks. The
pins, the node address and the cause at State.reset are the model's choice (log entry 1) and not stated here; the signal
states are those of the lines. That nothing waits between two blocks is R62's "lost with the rest" in the model's lists
(log entries 14 and 23). -/
def Obligations.ResetLeavesTheStatedValues : Prop :=
  State.reset.sched.state = .halted ∧ State.reset.sched.active = none ∧ State.reset.sched.position = 0 ∧
  State.reset.sched.startPending = false ∧ State.reset.sched.cycle = 0#32 ∧ State.reset.sched.excursionLeft = 0#8 ∧
  State.reset.sched.endRequested = false ∧ State.reset.sched.stopFromExcursion = false ∧
  State.reset.sched.commit = none ∧ State.reset.sched.slotClock = 0#32 ∧
  (∀ bk : BankId, (State.reset.sched.bank bk).state = .free ∧ (State.reset.sched.bank bk).count = 0 ∧
    ∀ i : Fin 64, (State.reset.sched.bank bk).entries[i] =
      { span := 0#16, openLen := 0#16, owner := 0#8, alignment := 0#8, reclaim := false }) ∧
  State.reset.qm.free.length = 512 ∧ (∀ j : Fin 512, j ∈ State.reset.qm.free) ∧ State.reset.qm.relayClass = 0 ∧
  (∀ k : ClassId, State.reset.qm.classes[k] =
    { queue := [], limit := 64, priority := 0, agingLimit := 0#8, eligible := true, age := 0#8, enqueued := 0#32,
      dropped := 0#32, transmitted := 0#32, flushed := 0#32 }) ∧
  (∀ i : FlowIndex, State.reset.flows[i] =
    { valid := false
      terms :=
        { flowId := 0#12, upstream := false, sourcePort := 0, cls := 0, action := .measure, demoteClass := 0,
          joinGap := 0#8, burstLimit := 0#16, minGap := 0#24, notifyEnable := false, mask := 0#4 }
      meas :=
        { seen := false, lastArrival := 0#32, currentBurst := 0#16, lastBurst := 0#16, lastGap := 0#24,
          smallestGap := 16777215#24, largestBurst := 0#16, conforming := 0#32, nonConforming := 0#32,
          bufferDrops := 0#32, armed := false } }) ∧
  (∀ p : PortId, State.reset.ports[p] =
    { state := .disabled, signal := State.reset.pins.stationLine[p], streak := 0#8, enable := false, threshold := 8#8,
      relay := false, policy := .discard, unknownClass := 7, egress := []
      counters :=
        { received := 0#32, headerErrors := 0#32, cellErrors := 0#32, kindErrors := 0#32, commandsDropped := 0#32,
          quarantineDiscards := 0#32, misrouted := 0#32, unknownFlow := 0#32, egressTransmitted := 0#32,
          egressDropped := 0#32, flushed := 0#32 }
      handoff := [], tx := State.reset.ports[p].tx }) ∧
  State.reset.trunk =
    { signal := State.reset.pins.trunkLine, received := 0#32, headerErrors := 0#32, cellErrors := 0#32,
      kindErrors := 0#32, transmitted := 0#32, idleTransmitted := 0#32, signalLosses := 0#32, handoff := []
      tx := State.reset.trunk.tx } ∧
  State.reset.df =
    { commandsTaken := 0#32, commandsRelayed := 0#32, commandsUnrelayable := 0#32, dataForwarded := 0#32,
      dataWithoutPorts := 0#32, dataUnmatched := 0#32, misdirected := 0#32 } ∧
  State.reset.me.commands = [] ∧ State.reset.me.responses = [] ∧ State.reset.me.cache = none ∧
  State.reset.me.commandDrops = 0#16 ∧
  State.reset.nu =
    { queue := [{ node := State.reset.me.nodeAddr, seq := 0#8, lost := false, stamp := 0#32
                  body := .resetDone State.reset.me.cause }]
      mask := 0x7F#7, lost := false, seq := 1#8, handed := none }

/-- R171, R172: POWER_ON_RESET in any state, and PIN_RESET of at least 10 µs while no reset is in progress, hold every
block at its reset values with the links silent, a cell in transmission cut short (the model's form of it, log entries 12
and 21). -/
def Obligations.ResetHoldsEveryBlock : Prop :=
  (∀ s : State, ∃ t, exec .powerOnReset s = .next t ∧ held s .powerOnReset s.pins t) ∧
  ∀ (s : State) (lowNs : Nat), s.phase = .running → 10000 ≤ lowNs →
    ∃ t, exec (.pinReset lowNs) s = .next t ∧ held s .pinReset { s.pins with resetN := false } t

/-- R171: a low pulse shorter than 10 µs is ignored; an assertion during a pin reset is part of it and one during a
power-on reset is recorded, to prolong it; a release during a power-on reset whose 2 ms are not over does not end it. That
the rows carry these moments is the model's choice (log entry 11). -/
def Obligations.ResetPinDuringAResetAndShortPulses : Prop :=
  (∀ (s : State) (lowNs : Nat), lowNs < 10000 → exec (.pinReset lowNs) s = .next s) ∧
  (∀ (s : State) (lowNs : Nat), s.phase ≠ .running → 10000 ≤ lowNs →
    exec (.pinReset lowNs) s = .next { s with pins := { s.pins with resetN := false } }) ∧
  ∀ (s : State) (straps : BitVec 6) (rate : Bool), s.phase = .powerOnReset →
    exec (.pinResetEnd straps rate) s = .next { s with pins := { s.pins with resetN := true } }

/-- R140, R168, R170, R171, R173: a power-on reset ends with cause POWER_ON when its 2 ms are over and the reset pin is
released, whichever comes last, and a pin reset with cause PIN at the release: the straps are sampled, strap values 0 and
63 give node address 0 and any other its own value, and RESET_DONE is queued. That POWER_ON_RESET_END is the end of the 2
ms, and the links silent, are the model's choices (log entries 11 and 12). -/
def Obligations.ResetEndSamplesTheStraps : Prop :=
  ∀ (s : State) (straps : BitVec 6) (rate : Bool),
    let node := if straps = 0#6 ∨ straps = 63#6 then 0#8 else BitVec.ofNat 8 straps.toNat
    let pins := { s.pins with resetN := true, straps := straps, rate := rate }
    (s.phase = .powerOnReset → s.pins.resetN = true →
      ∃ t, exec (.powerOnResetEnd straps rate) s = .next t ∧
        restarted s pins node straps rate .powerOn .silent t) ∧
    (s.phase = .powerOnReset → s.pins.resetN = false →
      exec (.powerOnResetEnd straps rate) s = .next { s with phase := .powerOnHeld }) ∧
    (s.phase = .powerOnHeld →
      exec (.powerOnResetEnd straps rate) s = .next s ∧
      ∃ t, exec (.pinResetEnd straps rate) s = .next t ∧ restarted s pins node straps rate .powerOn .silent t) ∧
    (s.phase = .pinReset →
      ∃ t, exec (.pinResetEnd straps rate) s = .next t ∧ restarted s pins node straps rate .pin .silent t)

/-- R140, R156, R172: the management reset, made after the slot that carried the PART_RESET response, keeps the node
address, the strap values and the cell on the trunk; every other block restarts. That the next slot start makes it first
where the row was not presented is the model's choice (log entries 5 and 12). -/
def Obligations.ManagementResetKeepsTheStraps : Prop :=
  ∀ s : State, s.phase = .running → s.me.run = .resetSent →
    ∃ t, exec .managementReset s = .next t ∧
      restarted s s.pins s.me.nodeAddr s.me.straps s.me.rate .management s.trunk.tx t ∧
      exec .slotStart s = exec .slotStart t

/-- R172: while a power-on or pin reset is in progress the ports take no cell and transmit nothing, no slot starts, and
no command is taken: such a row leaves the part as it is (the model's choice, log entry 3). -/
def Obligations.NothingIsTakenDuringAReset : Prop :=
  ∀ s : State, s.phase ≠ .running →
    exec .slotStart s = .next s ∧ exec .cycleBoundary s = .next s ∧
    exec .managementReset s = .next s ∧
    exec .downstreamForward s = .next s ∧ exec .badCommand s = .next s ∧
    (∀ bytes, exec (.trunkCellReceive bytes) s = .next s) ∧
    (∀ p bytes, exec (.stationCellReceive p bytes) s = .next s) ∧
    (∀ p, exec (.stationTransmit p) s = .next s ∧ exec (.upstreamClassification p) s = .next s ∧
      exec (.cellAdmission p) s = .next s) ∧
    ∀ r ∈ commandRows, exec r.1 s = .next s

/-! ### Plans -/

/-- R2: the open slots of an entry begin at the offset its alignment fixes and run for the open length; with open length
0 there is none, and with open length equal to the span the offset is 0. -/
def Obligations.AlignmentPlacesTheOpenSlots : Prop :=
  ∀ e : WindowEntry, e.openLen.toNat ≤ e.span.toNat → e.alignment.toNat ≤ 2 →
    (e.alignment = 0#8 → e.offset = 0) ∧
    (e.alignment = 1#8 → e.offset = e.span.toNat - e.openLen.toNat) ∧
    (e.alignment = 2#8 → e.offset = (e.span.toNat - e.openLen.toNat) / 2) ∧
    (∀ off, e.isOpen off = true ↔ e.offset ≤ off ∧ off < e.offset + e.openLen.toNat) ∧
    (∀ off, e.isOpen off = true → off < e.span.toNat) ∧
    (e.openLen = 0#16 → ∀ off, e.isOpen off = false) ∧
    (e.openLen = e.span → e.offset = 0)

/-- R3, R4: the spans tile the cycle: the position at an offset within the span of an entry has the kind that the
entry gives that offset, by its owner and with its reclaim flag. -/
def Obligations.SpansTileTheCycle : Prop :=
  ∀ (before after : List WindowEntry) (e : WindowEntry) (off : Nat), off < e.span.toNat →
    slotKindAt (before ++ e :: after) ((before.map (fun x => x.span.toNat)).sum + off) =
      if e.isOpen off = true then
        if h : e.owner.toNat < 8 then .classWindow ⟨e.owner.toNat, h⟩ e.reclaim
        else if e.owner = 8#8 then .managementWindow e.reclaim else .free
      else .free

/-- R5: per cycle, a valid plan has as many window slots as the sum of its open lengths, and as many free slots as the
cycle length minus that sum. -/
def Obligations.WindowSlotsAreTheSumOfTheOpenLengths : Prop :=
  ∀ bk : Bank, bk.planFault = none →
    ((List.range bk.cycleLength).filter (fun p => slotKindAt bk.plan p ≠ .free)).length =
      (bk.plan.map (fun e => e.openLen.toNat)).sum ∧
    ((List.range bk.cycleLength).filter (fun p => slotKindAt bk.plan p = .free)).length =
      bk.cycleLength - (bk.plan.map (fun e => e.openLen.toNat)).sum

/-- R7: validation makes its checks in their order, and the first that fails decides: the entry count; the span, the
open length, the owner and the alignment of each entry, entry by entry, reported with the entry's index; the cycle
length; a management-capable slot (R8). A plan that passes them all is valid. The reasons have the codes 1 to 7. -/
def Obligations.ValidationMakesItsChecksInOrder : Prop :=
  ∀ bk : Bank,
    (¬ (1 ≤ bk.count ∧ bk.count ≤ 64) → bk.planFault = some (.planEmpty, 255)) ∧
    (1 ≤ bk.count ∧ bk.count ≤ 64 →
      (∀ (before after : List WindowEntry) (e : WindowEntry), bk.plan = before ++ e :: after →
        (∀ x ∈ before, EntryFits x) →
        (¬ (1 ≤ e.span.toNat ∧ e.span.toNat ≤ 1024) → bk.planFault = some (.spanRange, before.length)) ∧
        (1 ≤ e.span.toNat ∧ e.span.toNat ≤ 1024 →
          (e.span.toNat < e.openLen.toNat → bk.planFault = some (.openExceedsSpan, before.length)) ∧
          (e.openLen.toNat ≤ e.span.toNat →
            (8 < e.owner.toNat → bk.planFault = some (.ownerRange, before.length)) ∧
            (e.owner.toNat ≤ 8 → 2 < e.alignment.toNat → bk.planFault = some (.alignCode, before.length))))) ∧
      ((∀ e ∈ bk.plan, EntryFits e) →
        let cycle := (bk.plan.map (fun e => e.span.toNat)).sum
        (¬ (8 ≤ cycle ∧ cycle ≤ 16384) → bk.planFault = some (.cycleRange, 255)) ∧
        (8 ≤ cycle ∧ cycle ≤ 16384 →
          ((∀ e ∈ bk.plan, e.openLen = e.span ∧ e.owner ≠ 8#8) → bk.planFault = some (.noManagementSlot, 255)) ∧
          ((∃ e ∈ bk.plan, e.openLen ≠ e.span ∨ e.owner = 8#8) → bk.planFault = none)))) ∧
    [PlanFault.planEmpty, .spanRange, .openExceedsSpan, .ownerRange, .alignCode, .cycleRange, .noManagementSlot].map
      PlanFault.code = [1#8, 2#8, 3#8, 4#8, 5#8, 6#8, 7#8]

/-- R8: each cycle of the active plan has at least one free slot or one open slot of a management window, while the
scheduler is not HALTED. -/
def Obligations.EveryCycleHasAManagementCapableSlot : Prop :=
  ∀ c : Sched, SchedLaws c → c.state ≠ .halted →
    ∃ bk, c.active = some bk ∧ ∃ p, p < (c.bank bk).cycleLength ∧
      ((slotKindAt (c.bank bk).plan p = .free) ∨ ∃ reclaim, slotKindAt (c.bank bk).plan p = .managementWindow reclaim)

/-! ### The slot start and the cycle boundary -/

/-- R21 to R24: a slot start with no boundary. In HALTED the slot is free and position stays; after SCHED_START position
0 is served; otherwise position advances by one. The slot clock counts every slot. Where no boundary falls due,
CYCLE_BOUNDARY does nothing (the model's choice, log entry 4). A posting that waits for the notice unit is taken first,
under the slot clock of its own slot, or by CYCLE_BOUNDARY alone (R162, R167, the model's form of it, log entry 23). -/
def Obligations.SlotStartWithoutABoundary : Prop :=
  (∀ (s : State) (body : NoticeBody), s.phase = .running → s.nu.handed = some body →
    let v : State := { s with nu := { s.nu with handed := none } }
    let u : State := { v with nu := posted v s.sched.slotClock body }
    exec .slotStart s = exec .slotStart u ∧ exec .cycleBoundary s = .next u) ∧
  (∀ (s : State) (bk : BankId), Slotting s →
    (s.sched.state = .halted ∨ s.sched.startPending = true ∨
      s.sched.active = some bk ∧ s.sched.position + 1 < (s.sched.bank bk).cycleLength) →
    exec .cycleBoundary s = .next s) ∧
  (∀ s : State, Slotting s → s.sched.state = .halted →
    exec .slotStart s =
      .next (State.serve { s with sched := { s.sched with slotClock := s.sched.slotClock + 1#32 } } .free)) ∧
  (∀ (s : State) (bk : BankId), Slotting s → s.sched.state ≠ .halted → s.sched.active = some bk →
    s.sched.startPending = true →
    exec .slotStart s =
      .next (State.serve
        { s with sched :=
          { s.sched with slotClock := s.sched.slotClock + 1#32, startPending := false, position := 0 } }
        (slotKindAt (s.sched.bank bk).plan 0))) ∧
  ∀ (s : State) (bk : BankId), Slotting s → s.sched.state ≠ .halted → s.sched.active = some bk →
    s.sched.startPending = false → s.sched.position + 1 < (s.sched.bank bk).cycleLength →
    exec .slotStart s =
      .next (State.serve
        { s with sched :=
          { s.sched with slotClock := s.sched.slotClock + 1#32, position := s.sched.position + 1 } }
        (slotKindAt (s.sched.bank bk).plan (s.sched.position + 1)))

/-- R25 case 1, R27: the halting boundary frees every bank, halts the scheduler and posts SCHED_HALTED; its slot is
free. CYCLE_BOUNDARY is that slot start, and SLOT_START takes the boundary when it is due, leaving the posting to the
notice unit (the model's choices, log entries 4 and 23). -/
def Obligations.HaltingBoundary : Prop :=
  ∀ (s : State) (bk : BankId), CycleEnds s bk → s.sched.state = .stopping →
    announced s
      { s.sched with
        state := .halted, active := none, position := 0, startPending := false, excursionLeft := 0#8,
        endRequested := false, stopFromExcursion := false, commit := none, slotClock := s.sched.slotClock + 1#32,
        bankA := { s.sched.bankA with state := .free }, bankB := { s.sched.bankB with state := .free } }
      (.schedHalted s.sched.cycle (decide (s.sched.bankA.state = .armed ∨ s.sched.bankB.state = .armed))
        s.sched.stopFromExcursion)
      .free

/-- R25 cases 2 and 3, R27, R37: in EXCURSION, with the end requested or no cycle left, the HELD bank `h` is restored
and EXCURSION_DONE posted; otherwise excursion cycles left is decremented. CYCLE_BOUNDARY is the slot start that takes
the boundary, and SLOT_START leaves the posting to the notice unit (the model's choices, log entries 4 and 23). -/
def Obligations.ExcursionBoundaries : Prop :=
  (∀ (s : State) (bk h : BankId), CycleEnds s bk → s.sched.state = .excursion → (s.sched.bank bk).state = .active →
    (s.sched.bank h).state = .held → (s.sched.endRequested = true ∨ s.sched.excursionLeft = 0#8) →
    announced s
      { (s.sched.setBankState bk .free).setBankState h .active with
        state := .running, active := some h, position := 0, excursionLeft := 0#8, endRequested := false,
        cycle := s.sched.cycle + 1#32, slotClock := s.sched.slotClock + 1#32 }
      (.excursionDone h (if s.sched.endRequested then .requested else .count))
      (slotKindAt (s.sched.bank h).plan 0)) ∧
  ∀ (s : State) (bk : BankId), CycleEnds s bk → s.sched.state = .excursion → s.sched.endRequested = false →
    s.sched.excursionLeft ≠ 0#8 →
    unannounced s
      { s.sched with
        position := 0, excursionLeft := s.sched.excursionLeft - 1#8, cycle := s.sched.cycle + 1#32,
        slotClock := s.sched.slotClock + 1#32 }
      (slotKindAt (s.sched.bank bk).plan 0)

/-- R25 cases 4 and 5, R27, R33: in RUNNING with the other bank `other` ARMED, that bank becomes ACTIVE and the old one
FREE or HELD by the mode of the commit, and PLAN_SWAPPED is posted; with no bank ARMED the cycle number is incremented.
CYCLE_BOUNDARY is the slot start that takes the boundary, and SLOT_START leaves the posting to the notice unit (the
model's choices, log entries 4 and 23). -/
def Obligations.RunningBoundaries : Prop :=
  (∀ (s : State) (bk other : BankId) (r : CommitRecord), CycleEnds s bk → s.sched.state = .running →
    (s.sched.bank bk).state = .active → (s.sched.bank other).state = .armed → s.sched.commit = some r →
    announced s
      { (s.sched.setBankState bk (if r.mode = .permanent then .free else .held)).setBankState other .active with
        state := if r.mode = .permanent then .running else .excursion, active := some other, position := 0,
        excursionLeft := if r.mode = .permanent then s.sched.excursionLeft else r.repeatN,
        commit := none, cycle := s.sched.cycle + 1#32, slotClock := s.sched.slotClock + 1#32 }
      (.planSwapped other r.mode (s.sched.cycle + 1#32))
      (slotKindAt (s.sched.bank other).plan 0)) ∧
  ∀ (s : State) (bk : BankId), CycleEnds s bk → s.sched.state = .running →
    (∀ i, (s.sched.bank i).state ≠ .armed) →
    unannounced s
      { s.sched with position := 0, cycle := s.sched.cycle + 1#32, slotClock := s.sched.slotClock + 1#32 }
      (slotKindAt (s.sched.bank bk).plan 0)

/-! ### The service of a slot -/

/-- R44 to R47: a window slot sends its owner's cell: the head of its class, or the oldest response, else the oldest
notice. An empty window is served as a free slot when its reclaim flag is set and else carries an idle cell. No age
changes but that of a class whose queue empties (R54). The sending of the PART_RESET response makes the management reset
due (R156). The run state that says so, and the freed index at the tail of the free list, are the model's choices (log
entries 15 and 7). -/
def Obligations.WindowSlotsServeTheirOwner : Prop :=
  (∀ (s : State) (k : ClassId) (reclaim : Bool) (d : Descriptor) (ds : List Descriptor),
    s.qm.classes[k].queue = d :: ds →
    s.serve (.classWindow k reclaim) =
      { s with
        qm := dequeued s.qm k d ds
        trunk := sent s.trunk (s.qm.buffer[d.index].withFlag d.demoted) }) ∧
  (∀ (s : State) (k : ClassId), s.qm.classes[k].queue = [] →
    s.serve (.classWindow k true) = s.serve .free ∧
    s.serve (.classWindow k false) = { s with trunk := sent s.trunk Cell.idle }) ∧
  (∀ (s : State) (reclaim : Bool) (r : Response) (rest : List Response), s.me.responses = r :: rest →
    s.serve (.managementWindow reclaim) =
      { s with
        me := { s.me with
          responses := rest, run := if s.me.run = .resetAnswered ∧ r.code = 0x7F#8 then .resetSent else s.me.run }
        trunk := sent s.trunk r.cell }) ∧
  (∀ (s : State) (reclaim : Bool) (n : Notice) (rest : List Notice), s.me.responses = [] →
    s.nu.queue = n :: rest →
    s.serve (.managementWindow reclaim) =
      { s with nu := { s.nu with queue := rest }, trunk := sent s.trunk n.cell }) ∧
  ∀ s : State, s.me.responses = [] → s.nu.queue = [] →
    s.serve (.managementWindow true) = s.serve .free ∧
    s.serve (.managementWindow false) = { s with trunk := sent s.trunk Cell.idle }

/-- R49, R53: the free-slot arbiter sends the oldest response, else the oldest notice, else the head of the winning
class, else an idle cell; every candidate that is not granted the slot ages by one, and the granted class has age 0. The
sending of the PART_RESET response makes the management reset due (R156). The run state that says so, and the freed index
at the tail of the free list, are the model's choices (log entries 15 and 7). -/
def Obligations.FreeSlotsGoByPrecedence : Prop :=
  (∀ (s : State) (r : Response) (rest : List Response), s.me.responses = r :: rest →
    s.serve .free =
      { s with
        qm := { s.qm with classes := aged s.qm none }
        me := { s.me with
          responses := rest, run := if s.me.run = .resetAnswered ∧ r.code = 0x7F#8 then .resetSent else s.me.run }
        trunk := sent s.trunk r.cell }) ∧
  (∀ (s : State) (n : Notice) (rest : List Notice), s.me.responses = [] → s.nu.queue = n :: rest →
    s.serve .free =
      { s with
        qm := { s.qm with classes := aged s.qm none }, nu := { s.nu with queue := rest }
        trunk := sent s.trunk n.cell }) ∧
  (∀ (s : State) (k : ClassId) (d : Descriptor) (ds : List Descriptor), s.me.responses = [] → s.nu.queue = [] →
    s.qm.winner = some k → s.qm.classes[k].queue = d :: ds →
    s.serve .free =
      { s with
        qm := dequeued { s.qm with classes := aged s.qm (some k) } k d ds
        trunk := sent s.trunk (s.qm.buffer[d.index].withFlag d.demoted) }) ∧
  ∀ s : State, s.me.responses = [] → s.nu.queue = [] →
    (∀ k : ClassId, ¬ (s.qm.classes[k].eligible = true ∧ s.qm.classes[k].queue ≠ [])) →
    s.serve .free = { s with trunk := sent s.trunk Cell.idle }

/-- R50 to R52: a class wins exactly when it is a candidate and: if a candidate is promoted, it is promoted with the
largest age, the lowest number among equals; if none is, it has the highest priority, the lowest number among equals. -/
def Obligations.WinnerIsPromotedByAgeElseByPriority : Prop :=
  ∀ (q : QueueManager) (k : ClassId),
    let candidate := fun j : ClassId => q.classes[j].eligible = true ∧ q.classes[j].queue ≠ []
    let promoted := fun j : ClassId =>
      q.classes[j].agingLimit ≠ 0#8 ∧ q.classes[j].agingLimit.toNat ≤ q.classes[j].age.toNat
    q.winner = some k ↔
      candidate k ∧
      ((promoted k ∧ ∀ j, candidate j → promoted j →
          q.classes[j].age.toNat < q.classes[k].age.toNat ∨ q.classes[j].age.toNat = q.classes[k].age.toNat ∧ k ≤ j) ∨
       ((∀ j, candidate j → ¬ promoted j) ∧ ∀ j, candidate j →
          q.classes[j].priority < q.classes[k].priority ∨ q.classes[j].priority = q.classes[k].priority ∧ k ≤ j))

/-! ### Cells on the links -/

/-- R112, R158: a cell of any kind is sent as its seven header bytes, the bits not read sent as 0, the header check over
them, its payload, and the cell check over all these; R111: such 64 bytes are judged good by a port that accepts the
cell's kind, and read back field for field. R142, R151, R159, R161: a response and a notice are cells of their kind and of
flow ID 4095, their payloads laid out byte for byte as `responseBytes` and `noticeBytes` write them, 0 beyond the payload
length. Multi-byte fields go most significant byte first (R158), the cell kinds have the codes 0 to 4 (R158) and the
commands those of R152, and the other codes are those of R18, R28, R115, R122 and R153. The bytes 1 and 0 of the two flags of SCHED_HALTED, and of a flag in response data, are the model's choice (log
entry 24). -/
def Obligations.CellsSurviveTheWire : Prop :=
  (∀ c : Cell,
    c.wire = headerOf c ++ [headerCheck (headerOf c)] ++ c.payload.toList ++
      be32 (cellCheck (headerOf c ++ [headerCheck (headerOf c)] ++ c.payload.toList))) ∧
  (∀ (c : Cell) (accepts : Kind → Bool), accepts c.kind = true →
    (c.kind = .idle → c.len = 0#8) → (c.kind ≠ .idle → 1 ≤ c.len.toNat ∧ c.len.toNat ≤ 52) →
    c.wire.length = 64 ∧ judge accepts c.wire = .good c) ∧
  (∀ r : Response, r.data.length ≤ 40 →
    r.cell.kind = .response ∧ r.cell.flowId = 4095#12 ∧ r.cell.demoted = false ∧
    r.cell.len.toNat = 10 + r.data.length ∧
    r.cell.payload.toList = responseBytes r ++ List.replicate (42 - r.data.length) 0#8) ∧
  (∀ n : Notice,
    n.cell.kind = .notice ∧ n.cell.flowId = 4095#12 ∧ n.cell.demoted = false ∧
    n.cell.len.toNat = (noticeBytes n).length ∧
    n.cell.payload.toList = noticeBytes n ++ List.replicate (52 - (noticeBytes n).length) 0#8) ∧
  (∀ x : BitVec 16, (be16 x).length = 2 ∧ number (be16 x) 0 2 = x.toNat) ∧
  (∀ x : BitVec 24, (be24 x).length = 3 ∧ number (be24 x) 0 3 = x.toNat) ∧
  (∀ x : Word32, (be32 x).length = 4 ∧ number (be32 x) 0 4 = x.toNat) ∧
  flagByte false = 0#8 ∧ flagByte true = 1#8 ∧
  [Kind.idle, .data, .command, .response, .notice].map Kind.code = [0#8, 1#8, 2#8, 3#8, 4#8] ∧
  commandRows.map (fun r => r.2.code) = commandBytes ∧
  [BankId.a, .b].map BankId.code = [0#8, 1#8] ∧
  [BankState.free, .armed, .active, .held].map BankState.code = [0#8, 1#8, 2#8, 3#8] ∧
  [SchedState.halted, .running, .excursion, .stopping].map SchedState.code = [0#8, 1#8, 2#8, 3#8] ∧
  [PortState.disabled, .waiting, .active, .quarantined].map PortState.code = [0#8, 1#8, 2#8, 3#8] ∧
  [CommitMode.permanent, .excursion].map CommitMode.code = [0#8, 1#8] ∧
  [UnknownPolicy.discard, .forward].map UnknownPolicy.code = [0#8, 1#8] ∧
  [ResetCause.powerOn, .pin, .management].map ResetCause.code = [0#8, 1#8, 2#8]

/-- R111: received bytes are judged by the header check, the cell check and the kind check, in that order, and of a good
cell the kind, the flow ID, the demoted flag, the payload length and the payload are read, and no other bit (R158). A
cell cut short is bad (R126): under the header check when it ends before or fails that check, else under the cell check
(the model's reading, log entry 9). R158: the header check is the remainder of a division by x^8 + x^2 + x + 1 from 0,
not inverted, and the cell check that of a division by 04C11DB7h, with its term x^32, from FFFFFFFFh, inverted; the
register form of these divisions is the model's (log entry 20). -/
def Obligations.CellsAreJudgedByThreeChecksInOrder : Prop :=
  (∀ bytes : List Byte, isRemainder 8 0x107 0 bytes (headerCheck bytes)) ∧
  (∀ bytes : List Byte, isRemainder 32 0x104C11DB7 0xFFFFFFFF bytes (~~~ cellCheck bytes)) ∧
  (∀ (accepts : Kind → Bool) (bytes : List Byte), bytes.length < 64 →
    (bytes.length < 8 ∨ headerCheck (bytes.take 7) ≠ bytes.getD 7 0#8 → judge accepts bytes = .bad .header) ∧
    (8 ≤ bytes.length → headerCheck (bytes.take 7) = bytes.getD 7 0#8 → judge accepts bytes = .bad .cell)) ∧
  ∀ (accepts : Kind → Bool) (bytes : List Byte), bytes.length = 64 →
    (headerCheck (bytes.take 7) ≠ bytes.getD 7 0#8 → judge accepts bytes = .bad .header) ∧
    (headerCheck (bytes.take 7) = bytes.getD 7 0#8 →
      (cellCheck (bytes.take 60) ≠ read32 bytes 60 → judge accepts bytes = .bad .cell) ∧
      (cellCheck (bytes.take 60) = read32 bytes 60 →
        ((5 ≤ (bytes.getD 0 0#8).toNat ∨
          (bytes.getD 0 0#8 = 0#8 ∧ bytes.getD 3 0#8 ≠ 0#8) ∨
          (bytes.getD 0 0#8 ≠ 0#8 ∧ ((bytes.getD 3 0#8).toNat = 0 ∨ 52 < (bytes.getD 3 0#8).toNat)) ∨
          ∃ k : Kind, k.code = bytes.getD 0 0#8 ∧ accepts k = false) → judge accepts bytes = .bad .kind) ∧
        (∀ k : Kind, k.code = bytes.getD 0 0#8 → accepts k = true →
          (k = .idle → bytes.getD 3 0#8 = 0#8) →
          (k ≠ .idle → 1 ≤ (bytes.getD 3 0#8).toNat ∧ (bytes.getD 3 0#8).toNat ≤ 52) →
          ∃ c : Cell, judge accepts bytes = .good c ∧ c.kind = k ∧ c.len = bytes.getD 3 0#8 ∧
            c.flowId.toNat = 256 * ((bytes.getD 1 0#8).toNat % 16) + (bytes.getD 2 0#8).toNat ∧
            c.demoted = (bytes.getD 1 0#8).getLsbD 7 ∧ c.payload.toList = (bytes.drop 8).take 52)))

/-- R116, R117: an ACTIVE port takes a good cell that it accepts: IDLE is ignored, DATA is handed to the classifier with
its arrival slot, RESPONSE and NOTICE are offered for the relay class, each of these setting the streak to 0, and a
COMMAND is dropped and counted, the streak kept. Nothing else changes. The order of what a port handed on is its list of
hand-offs (log entry 14). -/
def Obligations.ActivePortTakesGoodCellsByKind : Prop :=
  ∀ (s : State) (p : PortId) (bytes : List Byte) (c : Cell), s.phase = .running → s.ports[p].state = .active →
    judge (stationAccepts s.ports[p].relay) bytes = .good c →
    let kept : BufCell := { kind := c.kind, flowId := c.flowId, len := c.len, payload := c.payload }
    exec (.stationCellReceive p bytes) s =
      .next { s with ports := updateAt s.ports p (fun pt =>
        match c.kind with
        | .idle => { pt with streak := 0#8 }
        | .data =>
          { pt with
            streak := 0#8, handoff := pt.handoff ++ [.classify kept s.sched.slotClock]
            counters := { pt.counters with received := satAdd pt.counters.received 1 } }
        | .response | .notice =>
          { pt with
            streak := 0#8
            handoff := pt.handoff ++ [.offer { cell := kept, target := .relay, flow := none, demoted := false }]
            counters := { pt.counters with received := satAdd pt.counters.received 1 } }
        | .command =>
          { pt with counters := { pt.counters with commandsDropped := satAdd pt.counters.commandsDropped 1 } }) }

/-- R115 to R118: an ACTIVE port counts a bad cell under its first failed check and raises the streak; the streak that
reaches a threshold other than 0 makes the port QUARANTINED, keeping its FIFO, and posts PORT_STATE with cause ERRORS. A
QUARANTINED port counts every cell but a good IDLE cell as a quarantine discard and changes nothing else. A DISABLED or
WAITING port changes nothing (for WAITING, which receives no cell, the model's choice, log entry 3). -/
def Obligations.BadCellsAndQuarantine : Prop :=
  (∀ (s : State) (p : PortId) (bytes : List Byte) (check : Check), s.phase = .running → s.ports[p].state = .active →
    judge (stationAccepts s.ports[p].relay) bytes = .bad check →
    let streak := satAdd s.ports[p].streak 1
    let counted := fun n : PortCounters =>
      match check with
      | .header => { n with headerErrors := satAdd n.headerErrors 1 }
      | .cell => { n with cellErrors := satAdd n.cellErrors 1 }
      | .kind => { n with kindErrors := satAdd n.kindErrors 1 }
    (s.ports[p].threshold ≠ 0#8 ∧ s.ports[p].threshold.toNat ≤ streak.toNat →
      exec (.stationCellReceive p bytes) s =
        .next { s with
          ports := updateAt s.ports p (fun pt =>
            { pt with state := .quarantined, streak := streak, counters := counted pt.counters })
          nu := posted s s.sched.slotClock (.portState p .quarantined .errors) }) ∧
    (s.ports[p].threshold = 0#8 ∨ streak.toNat < s.ports[p].threshold.toNat →
      exec (.stationCellReceive p bytes) s =
        .next { s with
          ports := updateAt s.ports p (fun pt => { pt with streak := streak, counters := counted pt.counters }) })) ∧
  (∀ (s : State) (p : PortId) (bytes : List Byte), s.phase = .running → s.ports[p].state = .quarantined →
    (∀ c, judge (stationAccepts s.ports[p].relay) bytes = .good c → c.kind ≠ .idle) →
    exec (.stationCellReceive p bytes) s =
      .next { s with ports := updateAt s.ports p (fun pt =>
        { pt with counters :=
          { pt.counters with quarantineDiscards := satAdd pt.counters.quarantineDiscards 1 } }) }) ∧
  (∀ (s : State) (p : PortId) (bytes : List Byte) (c : Cell), s.phase = .running →
    s.ports[p].state = .quarantined → judge (stationAccepts s.ports[p].relay) bytes = .good c → c.kind = .idle →
    exec (.stationCellReceive p bytes) s = .next s) ∧
  ∀ (s : State) (p : PortId) (bytes : List Byte), s.ports[p].state = .disabled ∨ s.ports[p].state = .waiting →
    exec (.stationCellReceive p bytes) s = .next s

/-- R113 to R115, R121: line signal sets the flag, and a WAITING port becomes ACTIVE; its loss clears the flag, and an
ACTIVE port becomes WAITING with its FIFO flushed and counted. Only a change of state posts PORT_STATE. During a
power-on or pin reset only the line changes, and a cell in transmission is cut on entry to WAITING (the model's choices,
log entries 18 and 19). -/
def Obligations.LineSignalMovesAPort : Prop :=
  ∀ (s : State) (p : PortId),
    let on := { s.pins with stationLine := updateAt s.pins.stationLine p (fun _ => true) }
    let off := { s.pins with stationLine := updateAt s.pins.stationLine p (fun _ => false) }
    (s.phase = .running → s.ports[p].state = .waiting →
      exec (.stationSignalGained p) s =
        .next { s with
          pins := on, ports := updateAt s.ports p (fun pt => { pt with signal := true, state := .active })
          nu := posted s s.sched.slotClock (.portState p .active .signalGained) }) ∧
    (s.phase = .running → s.ports[p].state ≠ .waiting →
      exec (.stationSignalGained p) s =
        .next { s with pins := on, ports := updateAt s.ports p (fun pt => { pt with signal := true }) }) ∧
    (s.phase = .running → s.ports[p].state = .active →
      exec (.stationSignalLost p) s =
        .next { s with
          pins := off, ports := updateAt s.ports p (fun pt => flushedInto { pt with signal := false } .waiting)
          nu := posted s s.sched.slotClock (.portState p .waiting .signalLost) }) ∧
    (s.phase = .running → s.ports[p].state ≠ .active →
      exec (.stationSignalLost p) s =
        .next { s with pins := off, ports := updateAt s.ports p (fun pt => { pt with signal := false }) }) ∧
    (s.phase ≠ .running →
      exec (.stationSignalGained p) s = .next { s with pins := on } ∧
      exec (.stationSignalLost p) s = .next { s with pins := off })

/-- R112, R120: at a transmit opportunity a port that is not DISABLED sends and counts its FIFO head, else an idle cell
that it does not count; a DISABLED port transmits nothing. -/
def Obligations.StationTransmitsItsHeadOrAnIdleCell : Prop :=
  ∀ (s : State) (p : PortId), s.phase = .running →
    (s.ports[p].state = .disabled →
      exec (.stationTransmit p) s =
        .next { s with ports := updateAt s.ports p (fun pt => { pt with tx := .silent }) }) ∧
    (s.ports[p].state ≠ .disabled → s.ports[p].egress = [] →
      exec (.stationTransmit p) s =
        .next { s with ports := updateAt s.ports p (fun pt =>
          { pt with tx := .sending (Cell.wire { kind := .idle, flowId := 0#12, demoted := false, len := 0#8,
                                                payload := Vector.replicate 52 0#8 }) }) }) ∧
    (∀ c rest, s.ports[p].state ≠ .disabled → s.ports[p].egress = c :: rest →
      exec (.stationTransmit p) s =
        .next { s with ports := updateAt s.ports p (fun pt =>
          { pt with
            tx := .sending c.wire, egress := rest
            counters :=
              { pt.counters with egressTransmitted := satAdd pt.counters.egressTransmitted 1 } }) })

/-! ### Upstream -/

/-- R81 to R83: a data cell whose flow ID no valid record carries, or whose record has upstream enabled clear, is
counted as unknown and, by the port's policy, dropped or offered to the port's unknown-flow class; a cell that arrives
on another port than the record's source port is counted as misrouted and dropped. No flow record changes. The offers
of the port that the queue manager has not taken yet, `before`, stay ahead of it. -/
def Obligations.UnknownAndMisroutedCells : Prop :=
  ∀ (s : State) (p : PortId) (before : List Offer) (c : BufCell) (t : Word32) (rest : List HandOff),
    s.phase = .running → s.ports[p].handoff = before.map .offer ++ .classify c t :: rest →
    ((∀ i : FlowIndex, s.flows[i].valid = true → s.flows[i].terms.flowId = c.flowId →
        s.flows[i].terms.upstream = false) →
      exec (.upstreamClassification p) s =
        .next { s with ports := updateAt s.ports p (fun pt =>
          { pt with
            counters := { pt.counters with unknownFlow := satAdd pt.counters.unknownFlow 1 }
            handoff := before.map .offer ++
              match pt.policy with
              | .discard => rest
              | .forward =>
                .offer { cell := c, target := .named pt.unknownClass, flow := none, demoted := false } :: rest }) }) ∧
    (∀ i : FlowIndex, FlowLaws s.flows → s.flows[i].valid = true → s.flows[i].terms.flowId = c.flowId →
      s.flows[i].terms.upstream = true → s.flows[i].terms.sourcePort ≠ p →
      exec (.upstreamClassification p) s =
        .next { s with ports := updateAt s.ports p (fun pt =>
          { pt with
            counters := { pt.counters with misrouted := satAdd pt.counters.misrouted 1 }
            handoff := before.map .offer ++ rest }) })

/-- R84, R97, R102, R106: a cell that passes the source-port check is measured, its verdict counted, and policed: it is
offered to its class with the flow reference, or, non-conforming, demoted under DEMOTE and dropped under DISCARD. A
non-conforming arrival of an armed record with notify enable set posts FLOW_VIOLATION and disarms the record; any other
arrival leaves the armed flag. -/
def Obligations.KnownFlowsAreMeasuredAndPoliced : Prop :=
  ∀ (s : State) (p : PortId) (before : List Offer) (c : BufCell) (t : Word32) (rest : List HandOff) (i : FlowIndex),
    s.phase = .running → s.ports[p].handoff = before.map .offer ++ .classify c t :: rest → FlowLaws s.flows →
    s.flows[i].valid = true →
    s.flows[i].terms.flowId = c.flowId → s.flows[i].terms.upstream = true → s.flows[i].terms.sourcePort = p →
    let r := s.flows[i]
    let m := r.measured t
    (r.verdict t = .conforming →
      exec (.upstreamClassification p) s =
        .next { s with
          flows := updateAt s.flows i (fun x =>
            { x with meas := { m with conforming := satAdd m.conforming 1, armed := x.meas.armed } })
          ports := updateAt s.ports p (fun pt => { pt with
            handoff := before.map .offer ++
              .offer { cell := c, target := .named r.terms.cls, flow := some i, demoted := false } :: rest }) }) ∧
    (∀ reason value, r.verdict t = .nonConforming reason value →
      exec (.upstreamClassification p) s =
        .next { s with
          flows := updateAt s.flows i (fun x =>
            { x with meas :=
              { m with
                nonConforming := satAdd m.nonConforming 1
                armed := if x.terms.notifyEnable = true ∧ x.meas.armed = true then false else x.meas.armed } })
          nu :=
            if r.terms.notifyEnable = true ∧ r.meas.armed = true then
              posted s s.sched.slotClock (.flowViolation i r.terms.flowId reason value)
            else s.nu
          ports := updateAt s.ports p (fun pt => { pt with
            handoff := before.map .offer ++
              match r.terms.action with
              | .measure =>
                .offer { cell := c, target := .named r.terms.cls, flow := some i, demoted := false } :: rest
              | .demote =>
                .offer { cell := c, target := .named r.terms.demoteClass, flow := some i, demoted := true } :: rest
              | .discard => rest }) })

/-- R98 to R101, R103, R104: the measures and the verdict of an arrival in slot `t`: a first arrival; an arrival at most
J slots after the last one, which joins the burst and is judged by the burst limit; a later one, which completes the
burst, measures the gap and is judged by the minimum gap. -/
def Obligations.ArrivalsAreMeasuredInBursts : Prop :=
  ∀ (r : FlowRecord) (t : Word32),
    let d := (t - r.meas.lastArrival).toNat
    let count := min (r.meas.currentBurst.toNat + 1) 65535
    (r.meas.seen = false →
      r.measured t = { r.meas with seen := true, currentBurst := 1#16, lastArrival := t } ∧
      r.verdict t = .conforming) ∧
    (r.meas.seen = true → d ≤ r.terms.joinGap.toNat →
      r.measured t = { r.meas with currentBurst := BitVec.ofNat 16 count, lastArrival := t } ∧
      (r.terms.burstLimit ≠ 0#16 ∧ r.terms.burstLimit.toNat < count →
        r.verdict t = .nonConforming .burst (BitVec.ofNat 32 count)) ∧
      (r.terms.burstLimit = 0#16 ∨ count ≤ r.terms.burstLimit.toNat → r.verdict t = .conforming)) ∧
    (r.meas.seen = true → r.terms.joinGap.toNat < d →
      r.measured t = { r.meas with
        lastBurst := r.meas.currentBurst
        largestBurst := BitVec.ofNat 16 (max r.meas.largestBurst.toNat r.meas.currentBurst.toNat)
        lastGap := BitVec.ofNat 24 (min d 16777215)
        smallestGap := BitVec.ofNat 24 (min r.meas.smallestGap.toNat (min d 16777215))
        currentBurst := 1#16, lastArrival := t } ∧
      (r.terms.minGap ≠ 0#24 ∧ d < r.terms.minGap.toNat →
        r.verdict t = .nonConforming .gap (BitVec.ofNat 32 d)) ∧
      (r.terms.minGap = 0#24 ∨ r.terms.minGap.toNat ≤ d → r.verdict t = .conforming))

/-- R63 to R65, R75, R107: an offer is admitted to its class, the relay class as it stands for a relayed cell, when the
class is below its limit and a buffer cell is free: a free index takes the cell and a descriptor naming it joins the
tail. Otherwise it is dropped and counted in the class, and on the flow record it names. That the first index of the free
list is the one taken is the model's choice (log entry 7). -/
def Obligations.AdmissionStoresOrDropsAnOffer : Prop :=
  ∀ (s : State) (p : PortId) (o : Offer) (rest : List HandOff), s.phase = .running →
    s.ports[p].handoff = .offer o :: rest →
    let k := match o.target with
      | .named k => k
      | .relay => s.qm.relayClass
    let popped := updateAt s.ports p (fun pt => { pt with handoff := rest })
    (∀ j js, s.qm.classes[k].queue.length < s.qm.classes[k].limit → s.qm.free = j :: js →
      exec (.cellAdmission p) s =
        .next { s with
          ports := popped
          qm := { s.qm with
            free := js, buffer := updateAt s.qm.buffer j (fun _ => o.cell)
            classes := updateAt s.qm.classes k (fun c =>
              { c with
                queue := c.queue ++ [{ index := j, flow := o.flow, demoted := o.demoted }]
                enqueued := satAdd c.enqueued 1 }) } }) ∧
    (s.qm.classes[k].limit ≤ s.qm.classes[k].queue.length ∨ s.qm.free = [] →
      exec (.cellAdmission p) s =
        .next { s with
          ports := popped
          qm := { s.qm with
            classes := updateAt s.qm.classes k (fun c => { c with dropped := satAdd c.dropped 1 }) }
          flows := match o.flow with
            | some i => updateAt s.flows i (fun r =>
                { r with meas := { r.meas with bufferDrops := satAdd r.meas.bufferDrops 1 } })
            | none => s.flows })

/-! ### Downstream -/

/-- R126: while the trunk signal is UP a bad cell is counted under its first failed check, a good IDLE cell is ignored,
and any other good cell is counted and handed to the forwarder. While it is DOWN no whole cell is received, and the part
of a cell that the loss of signal cut short is counted as bad (the model's reading, log entry 10). -/
def Obligations.TrunkTakesCells : Prop :=
  (∀ (s : State) (bytes : List Byte) (check : Check), s.phase = .running →
    s.trunk.signal = true ∨ bytes.length < 64 → judge trunkAccepts bytes = .bad check →
    exec (.trunkCellReceive bytes) s =
      .next { s with trunk :=
        match check with
        | .header => { s.trunk with headerErrors := satAdd s.trunk.headerErrors 1 }
        | .cell => { s.trunk with cellErrors := satAdd s.trunk.cellErrors 1 }
        | .kind => { s.trunk with kindErrors := satAdd s.trunk.kindErrors 1 } }) ∧
  (∀ (s : State) (bytes : List Byte) (c : Cell), s.phase = .running → s.trunk.signal = true →
    judge trunkAccepts bytes = .good c →
    exec (.trunkCellReceive bytes) s =
      .next (if c.kind = .idle then s
        else { s with trunk :=
          { s.trunk with received := satAdd s.trunk.received 1, handoff := s.trunk.handoff ++ [c] } })) ∧
  ∀ (s : State) (bytes : List Byte), s.trunk.signal = false → 64 ≤ bytes.length →
    exec (.trunkCellReceive bytes) s = .next s

/-- R127: a change of trunk signal changes the signal state, counts a change to DOWN and posts TRUNK_STATE; it changes
nothing else in the part but the record of the line. A signal that stands as it was posts nothing; during a power-on or
pin reset only the line changes (the model's choice, log entry 18). -/
def Obligations.TrunkSignalChangesAreReported : Prop :=
  ∀ (s : State) (up : Bool),
    let pins := { s.pins with trunkLine := up }
    (s.phase = .running → s.trunk.signal ≠ up →
      exec (.trunkSignalChange up) s =
        .next { s with
          pins := pins
          trunk := { s.trunk with
            signal := up
            signalLosses := if up = true then s.trunk.signalLosses else satAdd s.trunk.signalLosses 1 }
          nu := posted s s.sched.slotClock (.trunkState up) }) ∧
    (s.phase = .running → s.trunk.signal = up → exec (.trunkSignalChange up) s = .next { s with pins := pins }) ∧
    (s.phase ≠ .running → exec (.trunkSignalChange up) s = .next { s with pins := pins })

/-- R119, R128 to R132: a COMMAND whose first payload byte is 0 or the pacer's own address joins the command queue, or
is dropped and counted when 4 wait; any other COMMAND is offered to every port whose relay bit is set, or is dropped
when none is. -/
def Obligations.CommandsAreQueuedOrRelayed : Prop :=
  ∀ (s : State) (c : Cell) (rest : List Cell), s.phase = .running → s.trunk.handoff = c :: rest → c.kind = .command →
    let trunk := { s.trunk with handoff := rest }
    (c.payload[0] = 0#8 ∨ c.payload[0] = s.me.nodeAddr →
      (s.me.commands.length < 4 →
        exec .downstreamForward s =
          .next { s with
            trunk := trunk
            me := { s.me with commands := s.me.commands ++ [{ payload := c.payload, len := c.len }] }
            df := { s.df with commandsTaken := satAdd s.df.commandsTaken 1 } }) ∧
      (4 ≤ s.me.commands.length →
        exec .downstreamForward s =
          .next { s with trunk := trunk, me := { s.me with commandDrops := satAdd s.me.commandDrops 1 } })) ∧
    (c.payload[0] ≠ 0#8 ∧ c.payload[0] ≠ s.me.nodeAddr →
      ((∃ p : PortId, s.ports[p].relay = true) →
        exec .downstreamForward s =
          .next { s with
            trunk := trunk
            ports := Vector.ofFn (fun p : PortId =>
              if s.ports[p].relay = true then offered s.ports[p] c else s.ports[p])
            df := { s.df with commandsRelayed := satAdd s.df.commandsRelayed 1 } }) ∧
      ((∀ p : PortId, s.ports[p].relay = false) →
        exec .downstreamForward s =
          .next { s with
            trunk := trunk, df := { s.df with commandsUnrelayable := satAdd s.df.commandsUnrelayable 1 } }))

/-- R119, R134 to R136: a DATA cell is offered to every port of its record's mask, whatever the relay bits and upstream
enabled; with an empty mask or no valid record it is dropped and counted; RESPONSE and NOTICE are misdirected. -/
def Obligations.DataIsDeliveredByTheMask : Prop :=
  ∀ (s : State) (c : Cell) (rest : List Cell), s.phase = .running → s.trunk.handoff = c :: rest →
    let trunk := { s.trunk with handoff := rest }
    (∀ i : FlowIndex, c.kind = .data → FlowLaws s.flows → s.flows[i].valid = true →
      s.flows[i].terms.flowId = c.flowId →
      (s.flows[i].terms.mask ≠ 0#4 →
        exec .downstreamForward s =
          .next { s with
            trunk := trunk
            ports := Vector.ofFn (fun p : PortId =>
              if s.flows[i].terms.mask.getLsbD p.val = true then offered s.ports[p] c else s.ports[p])
            df := { s.df with dataForwarded := satAdd s.df.dataForwarded 1 } }) ∧
      (s.flows[i].terms.mask = 0#4 →
        exec .downstreamForward s =
          .next { s with
            trunk := trunk, df := { s.df with dataWithoutPorts := satAdd s.df.dataWithoutPorts 1 } })) ∧
    (c.kind = .data → (∀ i : FlowIndex, s.flows[i].valid = true → s.flows[i].terms.flowId ≠ c.flowId) →
      exec .downstreamForward s =
        .next { s with trunk := trunk, df := { s.df with dataUnmatched := satAdd s.df.dataUnmatched 1 } }) ∧
    (c.kind = .response ∨ c.kind = .notice →
      exec .downstreamForward s =
        .next { s with trunk := trunk, df := { s.df with misdirected := satAdd s.df.misdirected 1 } })

/-- R128, R139: each cell that the forwarder takes ends in exactly one counted outcome: while none has saturated, the
seven forwarder counters and the command-drop counter together rise by one. A saturating counter of any width adds up to
its largest value and stops there (00_scope.md, Conventions). -/
def Obligations.EachTrunkCellHasOneCountedOutcome : Prop :=
  (∀ (w : Nat) (counter : BitVec w) (n : Nat),
    (counter.toNat + n < 2 ^ w → (satAdd counter n).toNat = counter.toNat + n) ∧
    (2 ^ w ≤ counter.toNat + n → (satAdd counter n).toNat = 2 ^ w - 1)) ∧
  ∀ (s t : State) (c : Cell) (rest : List Cell), s.phase = .running → s.trunk.handoff = c :: rest → c.kind ≠ .idle →
    (∀ n ∈ [s.df.commandsTaken, s.df.commandsRelayed, s.df.commandsUnrelayable, s.df.dataForwarded,
      s.df.dataWithoutPorts, s.df.dataUnmatched, s.df.misdirected], n ≠ 0xFFFFFFFF#32) →
    s.me.commandDrops ≠ 0xFFFF#16 → exec .downstreamForward s = .next t →
    t.df.commandsTaken.toNat + t.df.commandsRelayed.toNat + t.df.commandsUnrelayable.toNat +
        t.df.dataForwarded.toNat + t.df.dataWithoutPorts.toNat + t.df.dataUnmatched.toNat + t.df.misdirected.toNat +
        t.me.commandDrops.toNat =
      s.df.commandsTaken.toNat + s.df.commandsRelayed.toNat + s.df.commandsUnrelayable.toNat +
        s.df.dataForwarded.toNat + s.df.dataWithoutPorts.toNat + s.df.dataUnmatched.toNat + s.df.misdirected.toNat +
        s.me.commandDrops.toNat + 1

/-! ### The engine -/

/-- R146, R147: a short command is answered BAD_COMMAND with detail 255, absent bytes echoed as 0, without the cache; a
command of unknown code, none of the 23 of R152, is answered BAD_COMMAND with detail 0 and cached. R141, R159: the
sequence number, the code and the parameters of a command that is not short are its payload bytes 1, 2, and 3 up to its
payload length. -/
def Obligations.BadCommandsAreAnswered : Prop :=
  (∀ c : Command, 3 ≤ c.len.toNat →
    c.seq = c.payload[1] ∧ c.codeByte = c.payload[2] ∧
    c.params = (c.payload.toList.drop 3).take (c.len.toNat - 3)) ∧
  (∀ code : Byte, (∀ k : CommandCode, k.code ≠ code) ↔ code ∉ commandBytes) ∧
  (∀ (s : State) (c : Command) (rest : List Command), Ready s c rest → c.len.toNat < 3 →
    exec .badCommand s =
      .next { s with me := { s.me with
        commands := rest
        responses := s.me.responses ++
          [{ node := s.me.nodeAddr, seq := if 2 ≤ c.len.toNat then c.payload[1] else 0#8, code := 0#8,
             status := .badCommand, detail := 255#8, replayed := false, cycle := s.sched.cycle, data := [] }] } }) ∧
  ∀ (s : State) (c : Command) (rest : List Command), Ready s c rest → 3 ≤ c.len.toNat →
    (∀ k : CommandCode, k.code ≠ c.codeByte) → s.me.cache.map CacheEntry.seq ≠ some c.seq →
    exec .badCommand s = .next (refused s c rest .badCommand 0#8 [])

/-- R146, R150: a command that repeats the cached sequence number, whatever command it is, is answered with the cached
record, its replayed flag set, and is not executed; the cache is not changed. -/
def Obligations.DuplicatesAreReplayed : Prop :=
  (∀ r ∈ commandRows, ∀ (s : State) (c : Command) (rest : List Command) (e : CacheEntry), Ready s c rest →
    3 ≤ c.len.toNat → c.codeByte = r.2.code → s.me.cache = some e → e.seq = c.seq →
    exec r.1 s =
      .next { s with me := { s.me with
        commands := rest, responses := s.me.responses ++ [{ e.record with replayed := true }] } }) ∧
  ∀ (s : State) (c : Command) (rest : List Command) (e : CacheEntry), Ready s c rest → 3 ≤ c.len.toNat →
    (∀ k : CommandCode, k.code ≠ c.codeByte) → s.me.cache = some e → e.seq = c.seq →
    exec .badCommand s =
      .next { s with me := { s.me with
        commands := rest, responses := s.me.responses ++ [{ e.record with replayed := true }] } }

/-- R145, R156: the engine takes no command while the command queue is empty, while the response queue holds 8 records,
or after it has answered PART_RESET; and it takes the oldest command only, so the row of another command waits, and
BAD_COMMAND where the oldest command is neither short nor of unknown code. Such a row leaves the part as it is (the
model's choice, log entry 3). -/
def Obligations.TheEngineWaits : Prop :=
  (∀ r ∈ commandRows, ∀ s : State,
    (s.me.commands = [] ∨ 8 ≤ s.me.responses.length ∨ s.me.run ≠ .taking → exec r.1 s = .next s) ∧
    (∀ c rest, s.me.commands = c :: rest → c.len.toNat < 3 ∨ c.codeByte ≠ r.2.code → exec r.1 s = .next s)) ∧
  ∀ s : State,
    (s.me.commands = [] ∨ 8 ≤ s.me.responses.length ∨ s.me.run ≠ .taking → exec .badCommand s = .next s) ∧
    (∀ c rest, ∀ k : CommandCode, s.me.commands = c :: rest → 3 ≤ c.len.toNat → c.codeByte = k.code →
      exec .badCommand s = .next s)

/-- R147: a command that lacks parameter bytes is refused BAD_PARAM with the offset of the first missing byte, and one
with every byte present with the offset of its first parameter out of range; nothing outside the engine changes. PLAN_READ
and PLAN_WRITE judge their count together with their first index (R14, R16), and PLAN_WRITE seeks absent entry bytes
last. -/
def Obligations.BadParametersAreRefused : Prop :=
  (∀ r ∈ parameterRanges, ∀ (s : State) (c : Command) (rest : List Command), Fresh s c rest r.2.1 →
    (c.params.length < r.2.2.1 →
      exec r.1 s = .next (refused s c rest .badParam (BitVec.ofNat 8 c.params.length) [])) ∧
    (r.2.2.1 ≤ c.params.length → ∀ bad, r.2.2.2.find? (fun x => !inRange c.params x) = some bad →
      exec r.1 s = .next (refused s c rest .badParam (BitVec.ofNat 8 bad.1) []))) ∧
  ∀ (s : State) (c : Command) (rest : List Command),
    let bank := number c.params 0 1
    let first := number c.params 1 1
    let count := number c.params 2 1
    (Fresh s c rest .planRead →
      (c.params.length < 3 →
        exec .planRead s = .next (refused s c rest .badParam (BitVec.ofNat 8 c.params.length) [])) ∧
      (3 ≤ c.params.length →
        (1 < bank → exec .planRead s = .next (refused s c rest .badParam 0#8 [])) ∧
        (bank ≤ 1 → 63 < first → exec .planRead s = .next (refused s c rest .badParam 1#8 [])) ∧
        (bank ≤ 1 → first ≤ 63 → 5 < count ∨ 1 ≤ count ∧ 64 < first + count →
          exec .planRead s = .next (refused s c rest .badParam 2#8 [])))) ∧
    (Fresh s c rest .planWrite →
      (c.params.length < 3 →
        exec .planWrite s = .next (refused s c rest .badParam (BitVec.ofNat 8 c.params.length) [])) ∧
      (3 ≤ c.params.length →
        (1 < bank → exec .planWrite s = .next (refused s c rest .badParam 0#8 [])) ∧
        (bank ≤ 1 → 63 < first → exec .planWrite s = .next (refused s c rest .badParam 1#8 [])) ∧
        (bank ≤ 1 → first ≤ 63 → count < 1 ∨ 5 < count ∨ 64 < first + count →
          exec .planWrite s = .next (refused s c rest .badParam 2#8 [])) ∧
        (bank ≤ 1 → first ≤ 63 → 1 ≤ count → count ≤ 5 → first + count ≤ 64 → c.params.length < 3 + 7 * count →
          exec .planWrite s = .next (refused s c rest .badParam (BitVec.ofNat 8 c.params.length) []))))

/-- R152, R153, R160: ECHO returns its parameter bytes, more than 40 being refused at offset 40; IDENTIFY returns the
fixed identity with the node address, the strap values and the reset cause. -/
def Obligations.EchoAndIdentifyAnswer : Prop :=
  (∀ (s : State) (c : Command) (rest : List Command), Fresh s c rest .echo →
    (c.params.length ≤ 40 → exec .echo s = .next { s with me := okAfter s c rest c.params }) ∧
    (40 < c.params.length → exec .echo s = .next (refused s c rest .badParam 40#8 []))) ∧
  ∀ (s : State) (c : Command) (rest : List Command), Fresh s c rest .identify →
    exec .identify s =
      .next { s with
        me := okAfter s c rest [0x0C#8, 0x5D#8, 0x00#8, 0x24#8, s.me.nodeAddr,
          BitVec.ofNat 8 s.me.straps.toNat, if s.me.rate then 1#8 else 0#8,
          match s.me.cause with
          | .powerOn => 0#8
          | .pin => 1#8
          | .management => 2#8,
          4#8, 8#8, 0x02#8, 0x00#8, 0x01#8, 0x00#8, 64#8, 4#8, 8#8, 16#8, 32#8, 5#8] }

/-- R40, R154, R160: STATUS returns its 22 bytes; with its clear option it then sets the command-drop counter to 0. The
lost flag is reported and not changed. That its values belong to one instant, and the bytes of the end-requested and lost
flags and of the trunk signal state, are the model's choices (log entries 6 and 24). -/
def Obligations.StatusReportsAndClears : Prop :=
  ∀ (s : State) (c : Command) (rest : List Command), Fresh s c rest .status → 1 ≤ c.params.length →
    let bankCode := fun st : BankState =>
      if s.sched.bankA.state = st then 0#8 else if s.sched.bankB.state = st then 1#8 else 255#8
    let active := match s.sched.active with
      | some .a => 0#8
      | some .b => 1#8
      | none => 255#8
    let data := [s.sched.state.code, active, bankCode .armed, bankCode .held, s.sched.excursionLeft,
        flagByte s.sched.endRequested] ++ be16 (BitVec.ofNat 16 s.sched.position) ++ be32 s.sched.slotClock ++
      [flagByte s.trunk.signal, s.ports[0].state.code, s.ports[1].state.code, s.ports[2].state.code,
        s.ports[3].state.code] ++ be16 (BitVec.ofNat 16 s.qm.free.length) ++ be16 s.me.commandDrops ++
      [flagByte s.nu.lost]
    (c.params.getD 0 0#8 = 0#8 → exec .status s = .next { s with me := okAfter s c rest data }) ∧
    (c.params.getD 0 0#8 = 1#8 →
      exec .status s = .next { s with me := { okAfter s c rest data with commandDrops := 0#16 } })

/-! ### Plan and scheduler commands -/

/-- R1, R14, R159: PLAN_WRITE of a FREE bank stores its entries in index order from the first index on, each replacing
the whole of its place as sent, any reclaim byte but 0 setting the flag; every other place, the entry count and the bank
state keep their values. A bank that is not FREE refuses it with BANK_BUSY and its state. -/
def Obligations.PlanWriteStoresEntries : Prop :=
  ∀ (s : State) (c : Command) (rest : List Command) (bk : BankId) (first count : Nat), Fresh s c rest .planWrite →
    c.params.getD 0 0#8 = bk.code → (c.params.getD 1 0#8).toNat = first → (c.params.getD 2 0#8).toNat = count →
    1 ≤ count → count ≤ 5 → first + count ≤ 64 → 3 + 7 * count ≤ c.params.length →
    ((s.sched.bank bk).state = .free →
      ∃ entries : Vector WindowEntry 64,
        exec .planWrite s =
          .next { s with
            sched := s.sched.setBank bk { s.sched.bank bk with entries := entries }, me := okAfter s c rest [] } ∧
        (∀ j : Fin 64, (j.val < first ∨ first + count ≤ j.val) → entries[j] = (s.sched.bank bk).entries[j]) ∧
        ∀ (j : Fin 64) (n : Nat), n < count → j.val = first + n →
          let at_ := fun i => c.params.getD (3 + 7 * n + i) 0#8
          entries[j] = { span := at_ 0 ++ at_ 1, openLen := at_ 2 ++ at_ 3, owner := at_ 4, alignment := at_ 5,
                         reclaim := decide (at_ 6 ≠ 0#8) }) ∧
    ((s.sched.bank bk).state ≠ .free →
      exec .planWrite s = .next (refused s c rest .bankBusy (s.sched.bank bk).state.code []))

/-- R15 to R18: PLAN_LENGTH sets the entry count of a FREE bank and returns the sum of the spans it then has; a bank
that is not FREE refuses it with BANK_BUSY. PLAN_READ returns the entry count, the state, the cycle length and the
entries asked for, in every bank state, and changes nothing. -/
def Obligations.PlanLengthAndPlanReadAnswer : Prop :=
  (∀ (s : State) (c : Command) (rest : List Command) (bk : BankId) (count : Nat), Fresh s c rest .planLength →
    2 ≤ c.params.length → c.params.getD 0 0#8 = bk.code → (c.params.getD 1 0#8).toNat = count → count ≤ 64 →
    ((s.sched.bank bk).state = .free →
      exec .planLength s =
        .next { s with
          sched := s.sched.setBank bk { s.sched.bank bk with count := count }
          me := okAfter s c rest (be24 (BitVec.ofNat 24
            ((((s.sched.bank bk).entries.toList.take count).map (fun e => e.span.toNat)).sum))) }) ∧
    ((s.sched.bank bk).state ≠ .free →
      exec .planLength s = .next (refused s c rest .bankBusy (s.sched.bank bk).state.code []))) ∧
  ∀ (s : State) (c : Command) (rest : List Command) (bk : BankId) (first count : Nat), Fresh s c rest .planRead →
    3 ≤ c.params.length → c.params.getD 0 0#8 = bk.code → (c.params.getD 1 0#8).toNat = first →
    (c.params.getD 2 0#8).toNat = count → first ≤ 63 → count ≤ 5 → (count = 0 ∨ first + count ≤ 64) →
    exec .planRead s =
      .next { s with
        me := okAfter s c rest ([BitVec.ofNat 8 (s.sched.bank bk).count, (s.sched.bank bk).state.code] ++
          be24 (BitVec.ofNat 24
            ((((s.sched.bank bk).entries.toList.take (s.sched.bank bk).count).map (fun e => e.span.toNat)).sum)) ++
          (((s.sched.bank bk).entries.toList.drop first).take count).flatMap (fun e =>
            be16 e.span ++ be16 e.openLen ++ [e.owner, e.alignment, if e.reclaim then 1#8 else 0#8])) }

/-- R9, R28, R32: PLAN_COMMIT in RUNNING arms a FREE bank with a valid plan, its commit record taking the mode and N; its
refusals come in the order NOT_RUNNING, BANK_BUSY, PLAN_INVALID, and change no scheduler state. -/
def Obligations.PlanCommitArmsAValidBank : Prop :=
  ∀ (s : State) (c : Command) (rest : List Command) (bk : BankId) (mode : CommitMode), Fresh s c rest .planCommit →
    3 ≤ c.params.length → c.params.getD 0 0#8 = bk.code → c.params.getD 1 0#8 = mode.code →
    (s.sched.state = .halted ∨ s.sched.state = .stopping →
      exec .planCommit s = .next (refused s c rest .notRunning s.sched.state.code [])) ∧
    (s.sched.state = .running ∨ s.sched.state = .excursion → (s.sched.bank bk).state ≠ .free →
      exec .planCommit s = .next (refused s c rest .bankBusy (s.sched.bank bk).state.code [])) ∧
    (s.sched.state = .running ∨ s.sched.state = .excursion → (s.sched.bank bk).state = .free →
      (∀ f n, (s.sched.bank bk).planFault = some (f, n) →
        exec .planCommit s = .next (refused s c rest .planInvalid f.code [BitVec.ofNat 8 n])) ∧
      ((s.sched.bank bk).planFault = none →
        exec .planCommit s =
          .next { s with
            sched := { s.sched.setBank bk { s.sched.bank bk with state := .armed } with
              commit := some { mode := mode, repeatN := c.params.getD 2 0#8 } }
            me := okAfter s c rest (be24 (BitVec.ofNat 24 (s.sched.bank bk).cycleLength)) }))

/-- R35: PLAN_WITHDRAW frees an ARMED bank, keeping its contents, and discards its commit record; it is answered
TOO_LATE for an ACTIVE or HELD bank and NOTHING_ARMED for a FREE one, in any scheduler state. -/
def Obligations.PlanWithdrawFreesAnArmedBank : Prop :=
  ∀ (s : State) (c : Command) (rest : List Command) (bk : BankId), Fresh s c rest .planWithdraw →
    1 ≤ c.params.length → c.params.getD 0 0#8 = bk.code →
    ((s.sched.bank bk).state = .armed →
      exec .planWithdraw s =
        .next { s with
          sched := { s.sched.setBank bk { s.sched.bank bk with state := .free } with commit := none }
          me := okAfter s c rest [] }) ∧
    ((s.sched.bank bk).state = .active → exec .planWithdraw s = .next (refused s c rest .tooLate 2#8 [])) ∧
    ((s.sched.bank bk).state = .held → exec .planWithdraw s = .next (refused s c rest .tooLate 3#8 [])) ∧
    ((s.sched.bank bk).state = .free → exec .planWithdraw s = .next (refused s c rest .nothingArmed 0#8 []))

/-- R9, R29: SCHED_START from HALTED makes a bank with a valid plan ACTIVE: RUNNING at position 0 of cycle 0 with the
start-pending flag set, its response carrying cycle number 0 and the cycle length. Otherwise it is refused with
ALREADY_RUNNING or PLAN_INVALID. -/
def Obligations.SchedStartRunsAValidBank : Prop :=
  ∀ (s : State) (c : Command) (rest : List Command) (bk : BankId), Fresh s c rest .schedStart →
    1 ≤ c.params.length → c.params.getD 0 0#8 = bk.code →
    (s.sched.state ≠ .halted →
      exec .schedStart s = .next (refused s c rest .alreadyRunning s.sched.state.code [])) ∧
    (s.sched.state = .halted →
      (∀ f n, (s.sched.bank bk).planFault = some (f, n) →
        exec .schedStart s = .next (refused s c rest .planInvalid f.code [BitVec.ofNat 8 n])) ∧
      ((s.sched.bank bk).planFault = none →
        exec .schedStart s =
          .next { s with
            sched := { s.sched.setBank bk { s.sched.bank bk with state := .active } with
              state := .running, active := some bk, position := 0, cycle := 0#32, startPending := true,
              excursionLeft := 0#8, endRequested := false, stopFromExcursion := false }
            me := engineAfter s c rest 0#32 .ok 0#8 (be24 (BitVec.ofNat 24 (s.sched.bank bk).cycleLength)) }))

/-- R30, R31, R38: SCHED_STOP makes a RUNNING or EXCURSION scheduler STOPPING, marking the excursion cut, is answered OK
with no change in STOPPING and NOT_RUNNING in HALTED. EXCURSION_END in EXCURSION sets the end-requested flag and returns
excursion cycles left; in any other state it is refused. -/
def Obligations.SchedStopAndExcursionEndAnswer : Prop :=
  (∀ (s : State) (c : Command) (rest : List Command), Fresh s c rest .schedStop →
    (s.sched.state = .running →
      exec .schedStop s =
        .next { s with sched := { s.sched with state := .stopping }, me := okAfter s c rest [] }) ∧
    (s.sched.state = .excursion →
      exec .schedStop s =
        .next { s with
          sched := { s.sched with state := .stopping, stopFromExcursion := true }, me := okAfter s c rest [] }) ∧
    (s.sched.state = .stopping → exec .schedStop s = .next { s with me := okAfter s c rest [] }) ∧
    (s.sched.state = .halted → exec .schedStop s = .next (refused s c rest .notRunning 0#8 []))) ∧
  ∀ (s : State) (c : Command) (rest : List Command), Fresh s c rest .excursionEnd →
    (s.sched.state = .excursion →
      exec .excursionEnd s =
        .next { s with
          sched := { s.sched with endRequested := true }, me := okAfter s c rest [s.sched.excursionLeft] }) ∧
    (s.sched.state ≠ .excursion →
      exec .excursionEnd s = .next (refused s c rest .notInExcursion s.sched.state.code []))

/-! ### Flow commands -/

/-- R78, R87, R88, R96: FLOW_WRITE in range replaces the whole record at its index: the fields sent, valid set, the
measurement reset with notify armed set; it returns the valid flag and flow ID held before. A reserved flow ID is refused
with RESERVED_FLOW, and an ID that a valid record at another index carries with DUPLICATE_FLOW. The byte of the previous
valid flag is the model's choice (log entry 24). -/
def Obligations.FlowWriteReplacesARecord : Prop :=
  ∀ (s : State) (c : Command) (rest : List Command) (t : FlowTerms) (i : FlowIndex), Fresh s c rest .flowWrite →
    c.params.take 16 = [BitVec.ofNat 8 i.val, 0#4 ++ t.flowId.extractLsb' 8 4, t.flowId.extractLsb' 0 8,
      (if t.upstream then 1#8 else 0#8), BitVec.ofNat 8 t.sourcePort.val, BitVec.ofNat 8 t.cls.val,
      (match t.action with
        | .measure => 0#8
        | .demote => 1#8
        | .discard => 2#8), BitVec.ofNat 8 t.demoteClass.val, t.joinGap, t.burstLimit.extractLsb' 8 8,
      t.burstLimit.extractLsb' 0 8, t.minGap.extractLsb' 16 8, t.minGap.extractLsb' 8 8, t.minGap.extractLsb' 0 8,
      (if t.notifyEnable then 1#8 else 0#8), 0#4 ++ t.mask] →
    t.joinGap ≠ 0#8 →
    (t.flowId = 0#12 ∨ t.flowId = 4095#12 → exec .flowWrite s = .next (refused s c rest .reservedFlow 0#8 [])) ∧
    (t.flowId ≠ 0#12 → t.flowId ≠ 4095#12 →
      (∀ j : FlowIndex, FlowLaws s.flows → j ≠ i → s.flows[j].valid = true → s.flows[j].terms.flowId = t.flowId →
        exec .flowWrite s = .next (refused s c rest .duplicateFlow 0#8 [BitVec.ofNat 8 j.val])) ∧
      ((∀ j : FlowIndex, j ≠ i → s.flows[j].valid = true → s.flows[j].terms.flowId ≠ t.flowId) →
        exec .flowWrite s =
          .next { s with
            flows := updateAt s.flows i (fun _ =>
              { valid := true, terms := t
                meas := { seen := false, lastArrival := 0#32, currentBurst := 0#16, lastBurst := 0#16,
                          lastGap := 0#24, smallestGap := 16777215#24, largestBurst := 0#16, conforming := 0#32,
                          nonConforming := 0#32, bufferDrops := 0#32, armed := true } })
            me := okAfter s c rest ((if s.flows[i].valid then 1#8 else 0#8) ::
              be16 (s.flows[i].terms.flowId.setWidth 16)) }))

/-- R90, R92, R93, R96, R108, R160: FLOW_READ returns the 40-byte image of any record and, with its option, then sets the
three counts to 0; FLOW_CLEAR clears the valid flag alone and returns its previous value; FLOW_REARM arms a valid record,
or with its option resets its whole measurement record, and refuses an invalid one with NOT_VALID. The byte of a previous
flag, and the 0 in the bits 3 and 2 of byte 3 and 7 and 3 of byte 4 of the image, to which R160 gives no value, are the
model's choices (log entries 24 and 25). -/
def Obligations.FlowReadClearAndRearmAnswer : Prop :=
  ∀ (s : State) (c : Command) (rest : List Command) (i : FlowIndex), c.params.getD 0 0#8 = BitVec.ofNat 8 i.val →
    (Fresh s c rest .flowRead → 2 ≤ c.params.length →
      (c.params.getD 1 0#8 = 0#8 →
        exec .flowRead s = .next { s with me := okAfter s c rest (flowBytes s.flows[i]) }) ∧
      (c.params.getD 1 0#8 = 1#8 →
        exec .flowRead s =
          .next { s with
            flows := updateAt s.flows i (fun r =>
              { r with meas := { r.meas with conforming := 0#32, nonConforming := 0#32, bufferDrops := 0#32 } })
            me := okAfter s c rest (flowBytes s.flows[i]) })) ∧
    (Fresh s c rest .flowClear → 1 ≤ c.params.length →
      exec .flowClear s =
        .next { s with
          flows := updateAt s.flows i (fun r => { r with valid := false })
          me := okAfter s c rest [if s.flows[i].valid then 1#8 else 0#8] }) ∧
    (Fresh s c rest .flowRearm → 2 ≤ c.params.length → (c.params.getD 1 0#8).toNat ≤ 1 →
      (s.flows[i].valid = false → exec .flowRearm s = .next (refused s c rest .notValid 0#8 [])) ∧
      (s.flows[i].valid = true →
        exec .flowRearm s =
          .next { s with
            flows := updateAt s.flows i (fun r =>
              { r with meas :=
                if c.params.getD 1 0#8 = 1#8 then
                  { seen := false, lastArrival := 0#32, currentBurst := 0#16, lastBurst := 0#16, lastGap := 0#24,
                    smallestGap := 16777215#24, largestBurst := 0#16, conforming := 0#32, nonConforming := 0#32,
                    bufferDrops := 0#32, armed := true }
                else { r.meas with armed := true } })
            me := okAfter s c rest
              ((if s.flows[i].meas.armed then 1#8 else 0#8) :: be32 s.flows[i].meas.nonConforming) }))

/-! ### Class commands -/

/-- R71, R73, R74, R160: CLASS_SET in range replaces the limit, the priority, the aging limit and the eligible flag
together and returns the occupancy and the age, unless the limit is below the occupancy; CLASS_READ returns its 30 bytes
and, with its option, then sets the four counters to 0. The bytes of its flags are the model's choice (log entry 24). -/
def Obligations.ClassSetAndClassReadAnswer : Prop :=
  ∀ (s : State) (c : Command) (rest : List Command) (k : ClassId), c.params.getD 0 0#8 = BitVec.ofNat 8 k.val →
    let q := s.qm.classes[k]
    (∀ (limit : BitVec 16) (priority : Fin 8), Fresh s c rest .classSet → 6 ≤ c.params.length →
      c.params.getD 1 0#8 = limit.extractLsb' 8 8 → c.params.getD 2 0#8 = limit.extractLsb' 0 8 →
      limit.toNat ≤ 512 → c.params.getD 3 0#8 = BitVec.ofNat 8 priority.val → (c.params.getD 5 0#8).toNat ≤ 1 →
      (limit.toNat < q.queue.length →
        exec .classSet s =
          .next (refused s c rest .limitBelowOccupancy 0#8 (be16 (BitVec.ofNat 16 q.queue.length)))) ∧
      (q.queue.length ≤ limit.toNat →
        exec .classSet s =
          .next { s with
            qm := { s.qm with classes := updateAt s.qm.classes k (fun x =>
              { x with limit := limit.toNat, priority := priority, agingLimit := c.params.getD 4 0#8,
                       eligible := decide (c.params.getD 5 0#8 = 1#8) }) }
            me := okAfter s c rest (be16 (BitVec.ofNat 16 q.queue.length) ++ [q.age]) })) ∧
    (Fresh s c rest .classRead → 2 ≤ c.params.length →
      let promoted := decide (q.agingLimit ≠ 0#8 ∧ q.agingLimit.toNat ≤ q.age.toNat)
      let head := match q.queue with
        | [] => [0#8, 255#8, 0#8]
        | d :: _ => (match d.flow with
            | some i => [1#8, BitVec.ofNat 8 i.val]
            | none => [0#8, 255#8]) ++ [flagByte d.demoted]
      let data := be16 (BitVec.ofNat 16 q.limit) ++ [BitVec.ofNat 8 q.priority.val, q.agingLimit, flagByte q.eligible] ++
        be16 (BitVec.ofNat 16 q.queue.length) ++ [q.age, flagByte promoted] ++ head ++
        be16 (BitVec.ofNat 16 s.qm.free.length) ++ be32 q.enqueued ++ be32 q.dropped ++ be32 q.transmitted ++
        be32 q.flushed
      (c.params.getD 1 0#8 = 0#8 → exec .classRead s = .next { s with me := okAfter s c rest data }) ∧
      (c.params.getD 1 0#8 = 1#8 →
        exec .classRead s =
          .next { s with
            qm := { s.qm with classes := updateAt s.qm.classes k (fun x =>
              { x with enqueued := 0#32, dropped := 0#32, transmitted := 0#32, flushed := 0#32 }) }
            me := okAfter s c rest data }))

/-- R69, R75: CLASS_FLUSH removes every descriptor of the class, returns their buffer cells to the free list, counts them
as flushed, sets the age to 0 and returns their number; RELAY_SET replaces the relay class and returns the old one. That
the freed indices join the tail of the free list in queue order is the model's choice (log entry 7). -/
def Obligations.ClassFlushAndRelaySetAnswer : Prop :=
  ∀ (s : State) (c : Command) (rest : List Command) (k : ClassId), c.params.getD 0 0#8 = BitVec.ofNat 8 k.val →
    1 ≤ c.params.length →
    (Fresh s c rest .classFlush →
      exec .classFlush s =
        .next { s with
          qm := { s.qm with
            free := s.qm.free ++ s.qm.classes[k].queue.map Descriptor.index
            classes := updateAt s.qm.classes k (fun x =>
              { x with queue := [], flushed := satAdd x.flushed x.queue.length, age := 0#8 }) }
          me := okAfter s c rest (be16 (BitVec.ofNat 16 s.qm.classes[k].queue.length)) }) ∧
    (Fresh s c rest .relaySet →
      exec .relaySet s =
        .next { s with
          qm := { s.qm with relayClass := k }, me := okAfter s c rest [BitVec.ofNat 8 s.qm.relayClass.val] })

/-! ### Port and notice commands -/

/-- R114, R115, R121, R122: PORT_SET replaces the five settings and moves the port: enable set takes a DISABLED or
QUARANTINED port to ACTIVE with signal and to WAITING without, and enable clear disables it, with streak 0, a flush on
entry to DISABLED or WAITING and PORT_STATE of cause COMMAND; any other case leaves the state, the streak and the FIFO.
It returns the new state, the signal flag and the number of cells flushed. A cell in transmission is cut on entry to
DISABLED or WAITING, and the byte of the signal flag (the model's reading and choice, log entries 19 and 24). -/
def Obligations.PortSetMovesThePort : Prop :=
  ∀ (s : State) (c : Command) (rest : List Command) (p : PortId) (enable relay : Bool) (policy : UnknownPolicy)
    (cls : ClassId), Fresh s c rest .portSet →
    6 ≤ c.params.length → c.params.getD 0 0#8 = BitVec.ofNat 8 p.val → c.params.getD 1 0#8 = flagByte enable →
    c.params.getD 3 0#8 = flagByte relay → c.params.getD 4 0#8 = policy.code →
    c.params.getD 5 0#8 = BitVec.ofNat 8 cls.val →
    let old := s.ports[p]
    let set := fun pt : Port => { pt with
      enable := enable, threshold := c.params.getD 2 0#8, relay := relay, policy := policy, unknownClass := cls }
    let answer := fun (st : PortState) (flushed : Nat) =>
      okAfter s c rest [st.code, flagByte old.signal, BitVec.ofNat 8 flushed]
    (enable = true → old.state = .waiting ∨ old.state = .active →
      exec .portSet s = .next { s with ports := updateAt s.ports p set, me := answer old.state 0 }) ∧
    (enable = true → old.state = .disabled ∨ old.state = .quarantined → old.signal = true →
      exec .portSet s =
        .next { s with
          ports := updateAt s.ports p (fun pt => { set pt with state := .active, streak := 0#8 })
          nu := posted s s.sched.slotClock (.portState p .active .command), me := answer .active 0 }) ∧
    (enable = true → old.state = .disabled ∨ old.state = .quarantined → old.signal = false →
      exec .portSet s =
        .next { s with
          ports := updateAt s.ports p (fun pt => flushedInto (set pt) .waiting)
          nu := posted s s.sched.slotClock (.portState p .waiting .command)
          me := answer .waiting old.egress.length }) ∧
    (enable = false → old.state = .disabled →
      exec .portSet s = .next { s with ports := updateAt s.ports p set, me := answer .disabled 0 }) ∧
    (enable = false → old.state ≠ .disabled →
      exec .portSet s =
        .next { s with
          ports := updateAt s.ports p (fun pt => flushedInto (set pt) .disabled)
          nu := posted s s.sched.slotClock (.portState p .disabled .command)
          me := answer .disabled old.egress.length })

/-- R124, R127, R138, R155, R160: PORT_READ reports one part of a station port or of port 4 and, with its option, then
sets the counters of that part alone to 0; a command that ends after the clear option reads part 0. The bytes of its
flags and of the trunk signal state are the model's choice (log entry 24). -/
def Obligations.PortReadReportsOnePart : Prop :=
  (∀ (s : State) (c : Command) (rest : List Command) (p : PortId), Fresh s c rest .portRead → 2 ≤ c.params.length →
    c.params.getD 0 0#8 = BitVec.ofNat 8 p.val → (c.params.getD 1 0#8).toNat ≤ 1 →
    let pt := s.ports[p]
    let n := pt.counters
    (c.params.getD 2 0#8 = 0#8 →
      exec .portRead s =
        .next { s with
          ports := if c.params.getD 1 0#8 = 1#8 then updateAt s.ports p (fun x =>
              { x with counters := { x.counters with
                received := 0#32, headerErrors := 0#32, cellErrors := 0#32, kindErrors := 0#32,
                commandsDropped := 0#32, quarantineDiscards := 0#32, misrouted := 0#32 } })
            else s.ports
          me := okAfter s c rest
            ([pt.state.code, flagByte pt.signal, pt.streak, flagByte pt.enable, pt.threshold, flagByte pt.relay,
              pt.policy.code, BitVec.ofNat 8 pt.unknownClass.val, BitVec.ofNat 8 pt.egress.length] ++
              be32 n.received ++ be32 n.headerErrors ++ be32 n.cellErrors ++ be32 n.kindErrors ++
              be32 n.commandsDropped ++ be32 n.quarantineDiscards ++ be32 n.misrouted) }) ∧
    (c.params.getD 2 0#8 = 1#8 →
      exec .portRead s =
        .next { s with
          ports := if c.params.getD 1 0#8 = 1#8 then updateAt s.ports p (fun x =>
              { x with counters := { x.counters with
                unknownFlow := 0#32, egressTransmitted := 0#32, egressDropped := 0#32, flushed := 0#32 } })
            else s.ports
          me := okAfter s c rest
            ([pt.state.code, BitVec.ofNat 8 pt.egress.length] ++ be32 n.unknownFlow ++ be32 n.egressTransmitted ++
              be32 n.egressDropped ++ be32 n.flushed) })) ∧
  ∀ (s : State) (c : Command) (rest : List Command), Fresh s c rest .portRead → 2 ≤ c.params.length →
    c.params.getD 0 0#8 = 4#8 → (c.params.getD 1 0#8).toNat ≤ 1 →
    (c.params.getD 2 0#8 = 0#8 →
      exec .portRead s =
        .next { s with
          trunk := if c.params.getD 1 0#8 = 1#8 then
              { s.trunk with received := 0#32, headerErrors := 0#32, cellErrors := 0#32, kindErrors := 0#32,
                             transmitted := 0#32, idleTransmitted := 0#32, signalLosses := 0#32 }
            else s.trunk
          me := okAfter s c rest
            ([flagByte s.trunk.signal] ++ be32 s.trunk.received ++ be32 s.trunk.headerErrors ++
              be32 s.trunk.cellErrors ++ be32 s.trunk.kindErrors ++ be32 s.trunk.transmitted ++
              be32 s.trunk.idleTransmitted ++ be32 s.trunk.signalLosses) }) ∧
    (c.params.getD 2 0#8 = 1#8 →
      exec .portRead s =
        .next { s with
          df := if c.params.getD 1 0#8 = 1#8 then
              { commandsTaken := 0#32, commandsRelayed := 0#32, commandsUnrelayable := 0#32, dataForwarded := 0#32,
                dataWithoutPorts := 0#32, dataUnmatched := 0#32, misdirected := 0#32 }
            else s.df
          me := okAfter s c rest
            ([flagByte s.trunk.signal] ++ be32 s.df.commandsTaken ++ be32 s.df.commandsRelayed ++
              be32 s.df.commandsUnrelayable ++ be32 s.df.dataForwarded ++ be32 s.df.dataWithoutPorts ++
              be32 s.df.dataUnmatched ++ be32 s.df.misdirected) })

/-- R156, R163: NOTICE_SET takes bits 1 to 6 of its byte as the flags of kinds 1 to 6, keeps the flag of RESET_DONE set
whatever bit 0 holds, and returns the mask as it stood; PART_RESET is answered OK and stops the engine. -/
def Obligations.NoticeSetAndPartResetAnswer : Prop :=
  (∀ (s : State) (c : Command) (rest : List Command), Fresh s c rest .noticeSet → 1 ≤ c.params.length →
    (c.params.getD 0 0#8).toNat < 128 →
    ∃ mask : BitVec 7,
      exec .noticeSet s =
        .next { s with
          nu := { s.nu with mask := mask }, me := okAfter s c rest [BitVec.ofNat 8 s.nu.mask.toNat] } ∧
      mask.getLsbD 0 = true ∧ ∀ n, 1 ≤ n → n ≤ 6 → mask.getLsbD n = (c.params.getD 0 0#8).getLsbD n) ∧
  ∀ (s : State) (c : Command) (rest : List Command), Fresh s c rest .partReset →
    exec .partReset s = .next { s with me := { okAfter s c rest [] with run := .resetAnswered } }

/-! ### Invariants -/

/-- The laws hold at State.reset. -/
def Obligations.TheLawsHoldAtReset : Prop :=
  SchedLaws State.reset.sched ∧ QueueLaws State.reset.qm ∧ FlowLaws State.reset.flows ∧ LinkLaws State.reset ∧
    ManagementLaws State.reset

/-- R12, R19, R23, R26, R33: every step keeps the laws of the scheduler and its banks. -/
def Obligations.EveryStepKeepsTheSchedulerLaws : Prop :=
  ∀ s t : State, SchedLaws s.sched → step s = .next t → SchedLaws t.sched

/-- R54, R59 to R61: every step keeps the buffer partition, the limits and the ages; so the free buffer count plus the
eight occupancies is 512. -/
def Obligations.EveryStepKeepsTheBufferPartition : Prop :=
  ∀ s t : State, QueueLaws s.qm → step s = .next t →
    QueueLaws t.qm ∧ t.qm.free.length + (t.qm.classes.toList.map (fun c => c.queue.length)).sum = 512

/-- R77, R78: every step keeps the flow table free of reserved and of repeated flow IDs. -/
def Obligations.EveryStepKeepsTheFlowTableUnique : Prop :=
  ∀ s t : State, FlowLaws s.flows → step s = .next t → FlowLaws t.flows

/-- R113, R114, R119, R121, R127: every step keeps the laws of the station ports and of the trunk signal. -/
def Obligations.EveryStepKeepsTheLinkLaws : Prop :=
  ∀ s t : State, LinkLaws s → step s = .next t → LinkLaws t

/-- R140, R142 to R144, R149, R163, R164: every step keeps the bounds of the queues, of the response data and of the
notice mask. -/
def Obligations.EveryStepKeepsTheManagementLaws : Prop :=
  ∀ s t : State, ManagementLaws s → step s = .next t → ManagementLaws t
end

