-- ==== Sys2Proof/Laws/State.lean ====
section
/-! SUPPORT. One lemma for each field and each update of State: what a named update writes, and that it leaves every
other field. -/

namespace Sys2Proof.Machine

section Updates

variable (s : State)

@[simp] theorem State.setSched_phase (c : Sched) : (s.setSched c).phase = s.phase := rfl
@[simp] theorem State.setSched_pins (c : Sched) : (s.setSched c).pins = s.pins := rfl
@[simp] theorem State.setSched_sched (c : Sched) : (s.setSched c).sched = c := rfl
@[simp] theorem State.setSched_qm (c : Sched) : (s.setSched c).qm = s.qm := rfl
@[simp] theorem State.setSched_flows (c : Sched) : (s.setSched c).flows = s.flows := rfl
@[simp] theorem State.setSched_ports (c : Sched) : (s.setSched c).ports = s.ports := rfl
@[simp] theorem State.setSched_trunk (c : Sched) : (s.setSched c).trunk = s.trunk := rfl
@[simp] theorem State.setSched_df (c : Sched) : (s.setSched c).df = s.df := rfl
@[simp] theorem State.setSched_me (c : Sched) : (s.setSched c).me = s.me := rfl
@[simp] theorem State.setSched_nu (c : Sched) : (s.setSched c).nu = s.nu := rfl
@[simp] theorem State.setSched_pending (c : Sched) : (s.setSched c).pending = s.pending := rfl

@[simp] theorem State.setQm_phase (q : QueueManager) : (s.setQm q).phase = s.phase := rfl
@[simp] theorem State.setQm_pins (q : QueueManager) : (s.setQm q).pins = s.pins := rfl
@[simp] theorem State.setQm_sched (q : QueueManager) : (s.setQm q).sched = s.sched := rfl
@[simp] theorem State.setQm_qm (q : QueueManager) : (s.setQm q).qm = q := rfl
@[simp] theorem State.setQm_flows (q : QueueManager) : (s.setQm q).flows = s.flows := rfl
@[simp] theorem State.setQm_ports (q : QueueManager) : (s.setQm q).ports = s.ports := rfl
@[simp] theorem State.setQm_trunk (q : QueueManager) : (s.setQm q).trunk = s.trunk := rfl
@[simp] theorem State.setQm_df (q : QueueManager) : (s.setQm q).df = s.df := rfl
@[simp] theorem State.setQm_me (q : QueueManager) : (s.setQm q).me = s.me := rfl
@[simp] theorem State.setQm_nu (q : QueueManager) : (s.setQm q).nu = s.nu := rfl
@[simp] theorem State.setQm_pending (q : QueueManager) : (s.setQm q).pending = s.pending := rfl

@[simp] theorem State.setFlows_phase (v : Vector FlowRecord 256) : (s.setFlows v).phase = s.phase := rfl
@[simp] theorem State.setFlows_pins (v : Vector FlowRecord 256) : (s.setFlows v).pins = s.pins := rfl
@[simp] theorem State.setFlows_sched (v : Vector FlowRecord 256) : (s.setFlows v).sched = s.sched := rfl
@[simp] theorem State.setFlows_qm (v : Vector FlowRecord 256) : (s.setFlows v).qm = s.qm := rfl
@[simp] theorem State.setFlows_flows (v : Vector FlowRecord 256) : (s.setFlows v).flows = v := rfl
@[simp] theorem State.setFlows_ports (v : Vector FlowRecord 256) : (s.setFlows v).ports = s.ports := rfl
@[simp] theorem State.setFlows_trunk (v : Vector FlowRecord 256) : (s.setFlows v).trunk = s.trunk := rfl
@[simp] theorem State.setFlows_df (v : Vector FlowRecord 256) : (s.setFlows v).df = s.df := rfl
@[simp] theorem State.setFlows_me (v : Vector FlowRecord 256) : (s.setFlows v).me = s.me := rfl
@[simp] theorem State.setFlows_nu (v : Vector FlowRecord 256) : (s.setFlows v).nu = s.nu := rfl
@[simp] theorem State.setFlows_pending (v : Vector FlowRecord 256) : (s.setFlows v).pending = s.pending := rfl

@[simp] theorem State.setPorts_phase (v : Vector Port 4) : (s.setPorts v).phase = s.phase := rfl
@[simp] theorem State.setPorts_pins (v : Vector Port 4) : (s.setPorts v).pins = s.pins := rfl
@[simp] theorem State.setPorts_sched (v : Vector Port 4) : (s.setPorts v).sched = s.sched := rfl
@[simp] theorem State.setPorts_qm (v : Vector Port 4) : (s.setPorts v).qm = s.qm := rfl
@[simp] theorem State.setPorts_flows (v : Vector Port 4) : (s.setPorts v).flows = s.flows := rfl
@[simp] theorem State.setPorts_ports (v : Vector Port 4) : (s.setPorts v).ports = v := rfl
@[simp] theorem State.setPorts_trunk (v : Vector Port 4) : (s.setPorts v).trunk = s.trunk := rfl
@[simp] theorem State.setPorts_df (v : Vector Port 4) : (s.setPorts v).df = s.df := rfl
@[simp] theorem State.setPorts_me (v : Vector Port 4) : (s.setPorts v).me = s.me := rfl
@[simp] theorem State.setPorts_nu (v : Vector Port 4) : (s.setPorts v).nu = s.nu := rfl
@[simp] theorem State.setPorts_pending (v : Vector Port 4) : (s.setPorts v).pending = s.pending := rfl

@[simp] theorem State.setTrunk_phase (t : Trunk) : (s.setTrunk t).phase = s.phase := rfl
@[simp] theorem State.setTrunk_pins (t : Trunk) : (s.setTrunk t).pins = s.pins := rfl
@[simp] theorem State.setTrunk_sched (t : Trunk) : (s.setTrunk t).sched = s.sched := rfl
@[simp] theorem State.setTrunk_qm (t : Trunk) : (s.setTrunk t).qm = s.qm := rfl
@[simp] theorem State.setTrunk_flows (t : Trunk) : (s.setTrunk t).flows = s.flows := rfl
@[simp] theorem State.setTrunk_ports (t : Trunk) : (s.setTrunk t).ports = s.ports := rfl
@[simp] theorem State.setTrunk_trunk (t : Trunk) : (s.setTrunk t).trunk = t := rfl
@[simp] theorem State.setTrunk_df (t : Trunk) : (s.setTrunk t).df = s.df := rfl
@[simp] theorem State.setTrunk_me (t : Trunk) : (s.setTrunk t).me = s.me := rfl
@[simp] theorem State.setTrunk_nu (t : Trunk) : (s.setTrunk t).nu = s.nu := rfl
@[simp] theorem State.setTrunk_pending (t : Trunk) : (s.setTrunk t).pending = s.pending := rfl

@[simp] theorem State.setDf_phase (d : Forwarder) : (s.setDf d).phase = s.phase := rfl
@[simp] theorem State.setDf_pins (d : Forwarder) : (s.setDf d).pins = s.pins := rfl
@[simp] theorem State.setDf_sched (d : Forwarder) : (s.setDf d).sched = s.sched := rfl
@[simp] theorem State.setDf_qm (d : Forwarder) : (s.setDf d).qm = s.qm := rfl
@[simp] theorem State.setDf_flows (d : Forwarder) : (s.setDf d).flows = s.flows := rfl
@[simp] theorem State.setDf_ports (d : Forwarder) : (s.setDf d).ports = s.ports := rfl
@[simp] theorem State.setDf_trunk (d : Forwarder) : (s.setDf d).trunk = s.trunk := rfl
@[simp] theorem State.setDf_df (d : Forwarder) : (s.setDf d).df = d := rfl
@[simp] theorem State.setDf_me (d : Forwarder) : (s.setDf d).me = s.me := rfl
@[simp] theorem State.setDf_nu (d : Forwarder) : (s.setDf d).nu = s.nu := rfl
@[simp] theorem State.setDf_pending (d : Forwarder) : (s.setDf d).pending = s.pending := rfl

@[simp] theorem State.setMe_phase (m : Engine) : (s.setMe m).phase = s.phase := rfl
@[simp] theorem State.setMe_pins (m : Engine) : (s.setMe m).pins = s.pins := rfl
@[simp] theorem State.setMe_sched (m : Engine) : (s.setMe m).sched = s.sched := rfl
@[simp] theorem State.setMe_qm (m : Engine) : (s.setMe m).qm = s.qm := rfl
@[simp] theorem State.setMe_flows (m : Engine) : (s.setMe m).flows = s.flows := rfl
@[simp] theorem State.setMe_ports (m : Engine) : (s.setMe m).ports = s.ports := rfl
@[simp] theorem State.setMe_trunk (m : Engine) : (s.setMe m).trunk = s.trunk := rfl
@[simp] theorem State.setMe_df (m : Engine) : (s.setMe m).df = s.df := rfl
@[simp] theorem State.setMe_me (m : Engine) : (s.setMe m).me = m := rfl
@[simp] theorem State.setMe_nu (m : Engine) : (s.setMe m).nu = s.nu := rfl
@[simp] theorem State.setMe_pending (m : Engine) : (s.setMe m).pending = s.pending := rfl

@[simp] theorem State.setNu_phase (n : NoticeUnit) : (s.setNu n).phase = s.phase := rfl
@[simp] theorem State.setNu_pins (n : NoticeUnit) : (s.setNu n).pins = s.pins := rfl
@[simp] theorem State.setNu_sched (n : NoticeUnit) : (s.setNu n).sched = s.sched := rfl
@[simp] theorem State.setNu_qm (n : NoticeUnit) : (s.setNu n).qm = s.qm := rfl
@[simp] theorem State.setNu_flows (n : NoticeUnit) : (s.setNu n).flows = s.flows := rfl
@[simp] theorem State.setNu_ports (n : NoticeUnit) : (s.setNu n).ports = s.ports := rfl
@[simp] theorem State.setNu_trunk (n : NoticeUnit) : (s.setNu n).trunk = s.trunk := rfl
@[simp] theorem State.setNu_df (n : NoticeUnit) : (s.setNu n).df = s.df := rfl
@[simp] theorem State.setNu_me (n : NoticeUnit) : (s.setNu n).me = s.me := rfl
@[simp] theorem State.setNu_nu (n : NoticeUnit) : (s.setNu n).nu = n := rfl
@[simp] theorem State.setNu_pending (n : NoticeUnit) : (s.setNu n).pending = s.pending := rfl

@[simp] theorem State.setPhase_phase (p : Phase) : (s.setPhase p).phase = p := rfl
@[simp] theorem State.setPhase_pins (p : Phase) : (s.setPhase p).pins = s.pins := rfl
@[simp] theorem State.setPhase_sched (p : Phase) : (s.setPhase p).sched = s.sched := rfl
@[simp] theorem State.setPhase_qm (p : Phase) : (s.setPhase p).qm = s.qm := rfl
@[simp] theorem State.setPhase_flows (p : Phase) : (s.setPhase p).flows = s.flows := rfl
@[simp] theorem State.setPhase_ports (p : Phase) : (s.setPhase p).ports = s.ports := rfl
@[simp] theorem State.setPhase_trunk (p : Phase) : (s.setPhase p).trunk = s.trunk := rfl
@[simp] theorem State.setPhase_df (p : Phase) : (s.setPhase p).df = s.df := rfl
@[simp] theorem State.setPhase_me (p : Phase) : (s.setPhase p).me = s.me := rfl
@[simp] theorem State.setPhase_nu (p : Phase) : (s.setPhase p).nu = s.nu := rfl
@[simp] theorem State.setPhase_pending (p : Phase) : (s.setPhase p).pending = s.pending := rfl

@[simp] theorem State.setPins_phase (p : Pins) : (s.setPins p).phase = s.phase := rfl
@[simp] theorem State.setPins_pins (p : Pins) : (s.setPins p).pins = p := rfl
@[simp] theorem State.setPins_sched (p : Pins) : (s.setPins p).sched = s.sched := rfl
@[simp] theorem State.setPins_qm (p : Pins) : (s.setPins p).qm = s.qm := rfl
@[simp] theorem State.setPins_flows (p : Pins) : (s.setPins p).flows = s.flows := rfl
@[simp] theorem State.setPins_ports (p : Pins) : (s.setPins p).ports = s.ports := rfl
@[simp] theorem State.setPins_trunk (p : Pins) : (s.setPins p).trunk = s.trunk := rfl
@[simp] theorem State.setPins_df (p : Pins) : (s.setPins p).df = s.df := rfl
@[simp] theorem State.setPins_me (p : Pins) : (s.setPins p).me = s.me := rfl
@[simp] theorem State.setPins_nu (p : Pins) : (s.setPins p).nu = s.nu := rfl
@[simp] theorem State.setPins_pending (p : Pins) : (s.setPins p).pending = s.pending := rfl

end Updates

/-! ### Updates of one port and of one flow record -/

section Places

variable (s : State)

@[simp] theorem State.updPort_phase (p : PortId) (f : Port → Port) : (s.updPort p f).phase = s.phase := rfl
@[simp] theorem State.updPort_pins (p : PortId) (f : Port → Port) : (s.updPort p f).pins = s.pins := rfl
@[simp] theorem State.updPort_sched (p : PortId) (f : Port → Port) : (s.updPort p f).sched = s.sched := rfl
@[simp] theorem State.updPort_qm (p : PortId) (f : Port → Port) : (s.updPort p f).qm = s.qm := rfl
@[simp] theorem State.updPort_flows (p : PortId) (f : Port → Port) : (s.updPort p f).flows = s.flows := rfl
@[simp] theorem State.updPort_trunk (p : PortId) (f : Port → Port) : (s.updPort p f).trunk = s.trunk := rfl
@[simp] theorem State.updPort_df (p : PortId) (f : Port → Port) : (s.updPort p f).df = s.df := rfl
@[simp] theorem State.updPort_me (p : PortId) (f : Port → Port) : (s.updPort p f).me = s.me := rfl
@[simp] theorem State.updPort_nu (p : PortId) (f : Port → Port) : (s.updPort p f).nu = s.nu := rfl
@[simp] theorem State.updPort_pending (p : PortId) (f : Port → Port) : (s.updPort p f).pending = s.pending := rfl
@[simp] theorem State.updPort_ports (p : PortId) (f : Port → Port) : (s.updPort p f).ports = updateAt s.ports p f := rfl

@[simp] theorem State.countPort_phase (p : PortId) (f : PortCounters → PortCounters) : (s.countPort p f).phase = s.phase := rfl
@[simp] theorem State.countPort_pins (p : PortId) (f : PortCounters → PortCounters) : (s.countPort p f).pins = s.pins := rfl
@[simp] theorem State.countPort_sched (p : PortId) (f : PortCounters → PortCounters) : (s.countPort p f).sched = s.sched := rfl
@[simp] theorem State.countPort_qm (p : PortId) (f : PortCounters → PortCounters) : (s.countPort p f).qm = s.qm := rfl
@[simp] theorem State.countPort_flows (p : PortId) (f : PortCounters → PortCounters) : (s.countPort p f).flows = s.flows := rfl
@[simp] theorem State.countPort_trunk (p : PortId) (f : PortCounters → PortCounters) : (s.countPort p f).trunk = s.trunk := rfl
@[simp] theorem State.countPort_df (p : PortId) (f : PortCounters → PortCounters) : (s.countPort p f).df = s.df := rfl
@[simp] theorem State.countPort_me (p : PortId) (f : PortCounters → PortCounters) : (s.countPort p f).me = s.me := rfl
@[simp] theorem State.countPort_nu (p : PortId) (f : PortCounters → PortCounters) : (s.countPort p f).nu = s.nu := rfl
@[simp] theorem State.countPort_pending (p : PortId) (f : PortCounters → PortCounters) : (s.countPort p f).pending = s.pending := rfl

@[simp] theorem State.countPort_ports (p : PortId) (f : PortCounters → PortCounters) :
    (s.countPort p f).ports = updateAt s.ports p (fun pt => { pt with counters := f pt.counters }) := rfl

@[simp] theorem State.updFlow_phase (i : FlowIndex) (f : FlowRecord → FlowRecord) : (s.updFlow i f).phase = s.phase := rfl
@[simp] theorem State.updFlow_pins (i : FlowIndex) (f : FlowRecord → FlowRecord) : (s.updFlow i f).pins = s.pins := rfl
@[simp] theorem State.updFlow_sched (i : FlowIndex) (f : FlowRecord → FlowRecord) : (s.updFlow i f).sched = s.sched := rfl
@[simp] theorem State.updFlow_qm (i : FlowIndex) (f : FlowRecord → FlowRecord) : (s.updFlow i f).qm = s.qm := rfl
@[simp] theorem State.updFlow_ports (i : FlowIndex) (f : FlowRecord → FlowRecord) : (s.updFlow i f).ports = s.ports := rfl
@[simp] theorem State.updFlow_trunk (i : FlowIndex) (f : FlowRecord → FlowRecord) : (s.updFlow i f).trunk = s.trunk := rfl
@[simp] theorem State.updFlow_df (i : FlowIndex) (f : FlowRecord → FlowRecord) : (s.updFlow i f).df = s.df := rfl
@[simp] theorem State.updFlow_me (i : FlowIndex) (f : FlowRecord → FlowRecord) : (s.updFlow i f).me = s.me := rfl
@[simp] theorem State.updFlow_nu (i : FlowIndex) (f : FlowRecord → FlowRecord) : (s.updFlow i f).nu = s.nu := rfl
@[simp] theorem State.updFlow_pending (i : FlowIndex) (f : FlowRecord → FlowRecord) : (s.updFlow i f).pending = s.pending := rfl
@[simp] theorem State.updFlow_flows (i : FlowIndex) (f : FlowRecord → FlowRecord) : (s.updFlow i f).flows = updateAt s.flows i f := rfl

end Places

/-! ### The places of a vector -/

/-- Reading one place of a vector after another was updated (in simp's form of a place, a number with its bound). -/
@[simp] theorem getElem_updateAt {α : Type} {n : Nat} (v : Vector α n) (i : Fin n) (f : α → α) (j : Nat) (h : j < n) :
    (updateAt v i f)[j] = if i.val = j then f v[i.val] else v[j] := by
  simp [updateAt, Vector.getElem_set]

/-- The updated place. -/
theorem getElem_updateAt_self {α : Type} {n : Nat} (v : Vector α n) (i : Fin n) (f : α → α) :
    (updateAt v i f)[i] = f v[i] := by
  simp

/-- Every other place. -/
theorem getElem_updateAt_ne {α : Type} {n : Nat} (v : Vector α n) {i j : Fin n} (h : i ≠ j) (f : α → α) :
    (updateAt v i f)[j] = v[j] := by
  have : i.val ≠ j.val := fun e => h (Fin.ext e)
  simp [this]

/-- Two updates of one place are one. -/
@[simp] theorem updateAt_updateAt {α : Type} {n : Nat} (v : Vector α n) (i : Fin n) (f g : α → α) :
    updateAt (updateAt v i f) i g = updateAt v i (fun x => g (f x)) := by
  simp [updateAt]

/-- A saturating counter adds up to its largest value. -/
theorem satAdd_toNat {w : Nat} (c : BitVec w) (n : Nat) : (satAdd c n).toNat = min (c.toNat + n) (2 ^ w - 1) := by
  have h : 0 < 2 ^ w := Nat.two_pow_pos w
  simp only [satAdd, BitVec.toNat_ofNat]
  exact Nat.mod_eq_of_lt (by omega)

/-! ### Posting changes the notice unit alone -/

@[simp] theorem State.post_phase (s : State) (body : NoticeBody) : (s.post body).phase = s.phase := by
  unfold State.post; split
  · rfl
  · split <;> rfl

@[simp] theorem State.post_pins (s : State) (body : NoticeBody) : (s.post body).pins = s.pins := by
  unfold State.post; split
  · rfl
  · split <;> rfl

@[simp] theorem State.post_sched (s : State) (body : NoticeBody) : (s.post body).sched = s.sched := by
  unfold State.post; split
  · rfl
  · split <;> rfl

@[simp] theorem State.post_qm (s : State) (body : NoticeBody) : (s.post body).qm = s.qm := by
  unfold State.post; split
  · rfl
  · split <;> rfl

@[simp] theorem State.post_flows (s : State) (body : NoticeBody) : (s.post body).flows = s.flows := by
  unfold State.post; split
  · rfl
  · split <;> rfl

@[simp] theorem State.post_ports (s : State) (body : NoticeBody) : (s.post body).ports = s.ports := by
  unfold State.post; split
  · rfl
  · split <;> rfl

@[simp] theorem State.post_trunk (s : State) (body : NoticeBody) : (s.post body).trunk = s.trunk := by
  unfold State.post; split
  · rfl
  · split <;> rfl

@[simp] theorem State.post_df (s : State) (body : NoticeBody) : (s.post body).df = s.df := by
  unfold State.post; split
  · rfl
  · split <;> rfl

@[simp] theorem State.post_me (s : State) (body : NoticeBody) : (s.post body).me = s.me := by
  unfold State.post; split
  · rfl
  · split <;> rfl

@[simp] theorem State.post_pending (s : State) (body : NoticeBody) : (s.post body).pending = s.pending := by
  unfold State.post; split
  · rfl
  · split <;> rfl

@[simp] theorem State.postIf_phase (s : State) (b : Option NoticeBody) : (s.postIf b).phase = s.phase := by
  cases b <;> simp [State.postIf]

@[simp] theorem State.postIf_pins (s : State) (b : Option NoticeBody) : (s.postIf b).pins = s.pins := by
  cases b <;> simp [State.postIf]

@[simp] theorem State.postIf_sched (s : State) (b : Option NoticeBody) : (s.postIf b).sched = s.sched := by
  cases b <;> simp [State.postIf]

@[simp] theorem State.postIf_qm (s : State) (b : Option NoticeBody) : (s.postIf b).qm = s.qm := by
  cases b <;> simp [State.postIf]

@[simp] theorem State.postIf_flows (s : State) (b : Option NoticeBody) : (s.postIf b).flows = s.flows := by
  cases b <;> simp [State.postIf]

@[simp] theorem State.postIf_ports (s : State) (b : Option NoticeBody) : (s.postIf b).ports = s.ports := by
  cases b <;> simp [State.postIf]

@[simp] theorem State.postIf_trunk (s : State) (b : Option NoticeBody) : (s.postIf b).trunk = s.trunk := by
  cases b <;> simp [State.postIf]

@[simp] theorem State.postIf_df (s : State) (b : Option NoticeBody) : (s.postIf b).df = s.df := by
  cases b <;> simp [State.postIf]

@[simp] theorem State.postIf_me (s : State) (b : Option NoticeBody) : (s.postIf b).me = s.me := by
  cases b <;> simp [State.postIf]

@[simp] theorem State.postIf_pending (s : State) (b : Option NoticeBody) : (s.postIf b).pending = s.pending := by
  cases b <;> simp [State.postIf]

/-! ### A posting handed over and taken later -/

@[simp] theorem State.handOver_phase (s : State) (b : Option NoticeBody) : (s.handOver b).phase = s.phase := rfl
@[simp] theorem State.handOver_pins (s : State) (b : Option NoticeBody) : (s.handOver b).pins = s.pins := rfl
@[simp] theorem State.handOver_sched (s : State) (b : Option NoticeBody) : (s.handOver b).sched = s.sched := rfl
@[simp] theorem State.handOver_qm (s : State) (b : Option NoticeBody) : (s.handOver b).qm = s.qm := rfl
@[simp] theorem State.handOver_flows (s : State) (b : Option NoticeBody) : (s.handOver b).flows = s.flows := rfl
@[simp] theorem State.handOver_ports (s : State) (b : Option NoticeBody) : (s.handOver b).ports = s.ports := rfl
@[simp] theorem State.handOver_trunk (s : State) (b : Option NoticeBody) : (s.handOver b).trunk = s.trunk := rfl
@[simp] theorem State.handOver_df (s : State) (b : Option NoticeBody) : (s.handOver b).df = s.df := rfl
@[simp] theorem State.handOver_me (s : State) (b : Option NoticeBody) : (s.handOver b).me = s.me := rfl
@[simp] theorem State.handOver_pending (s : State) (b : Option NoticeBody) : (s.handOver b).pending = s.pending := rfl
@[simp] theorem State.handOver_nu (s : State) (b : Option NoticeBody) : (s.handOver b).nu = { s.nu with handed := b } := rfl

@[simp] theorem State.takeHanded_phase (s : State) : s.takeHanded.phase = s.phase := by
  unfold State.takeHanded; split <;> simp

@[simp] theorem State.takeHanded_pins (s : State) : s.takeHanded.pins = s.pins := by
  unfold State.takeHanded; split <;> simp

@[simp] theorem State.takeHanded_sched (s : State) : s.takeHanded.sched = s.sched := by
  unfold State.takeHanded; split <;> simp

@[simp] theorem State.takeHanded_qm (s : State) : s.takeHanded.qm = s.qm := by
  unfold State.takeHanded; split <;> simp

@[simp] theorem State.takeHanded_flows (s : State) : s.takeHanded.flows = s.flows := by
  unfold State.takeHanded; split <;> simp

@[simp] theorem State.takeHanded_ports (s : State) : s.takeHanded.ports = s.ports := by
  unfold State.takeHanded; split <;> simp

@[simp] theorem State.takeHanded_trunk (s : State) : s.takeHanded.trunk = s.trunk := by
  unfold State.takeHanded; split <;> simp

@[simp] theorem State.takeHanded_df (s : State) : s.takeHanded.df = s.df := by
  unfold State.takeHanded; split <;> simp

@[simp] theorem State.takeHanded_me (s : State) : s.takeHanded.me = s.me := by
  unfold State.takeHanded; split <;> simp

@[simp] theorem State.takeHanded_pending (s : State) : s.takeHanded.pending = s.pending := by
  unfold State.takeHanded; split <;> simp

end Sys2Proof.Machine
end

