-- ==== Sys2Proof/Laws/Engine.lean ====
section
/-! SUPPORT. What the engine can do with a row of the table (R145 to R150): when it takes a command, which row a command
is, and the three shapes of an answer. -/

namespace Sys2Proof.Machine

/-! ### Which row a command is -/

/-- R152: the code of a command names it. -/
@[simp] theorem CommandCode.ofByte_code (k : CommandCode) : CommandCode.ofByte k.code = some k := by
  cases k <;> rfl

/-- R152: the codes are distinct. -/
theorem CommandCode.code_injective {j k : CommandCode} (h : j.code = k.code) : j = k := by
  simpa using congrArg CommandCode.ofByte h

/-- R152: the catalogue is whole. -/
theorem CommandCode.mem_catalogue (k : CommandCode) : k ∈ CommandCode.catalogue := by
  cases k <;> decide

/-- R147: a byte names a command exactly when it is the command's code. -/
theorem CommandCode.ofByte_eq_some {byte : Byte} {k : CommandCode} : CommandCode.ofByte byte = some k ↔ k.code = byte := by
  refine ⟨fun h => ?_, fun h => h ▸ CommandCode.ofByte_code k⟩
  simpa using List.find?_some h

/-- R147: a byte is an unknown code exactly when no command has it. -/
theorem CommandCode.ofByte_eq_none {byte : Byte} : CommandCode.ofByte byte = none ↔ ∀ k : CommandCode, k.code ≠ byte := by
  simp [CommandCode.ofByte, CommandCode.mem_catalogue]

/-- R141, R146: the row of a command that is not short is that of its code. -/
theorem Command.row_eq_some {c : Command} {k : CommandCode} :
    c.row = some k ↔ 3 ≤ c.len.toNat ∧ c.codeByte = k.code := by
  by_cases h : c.len.toNat < 3
  · simp [Command.row, Command.short, h]
  · have h3 : 3 ≤ c.len.toNat := by omega
    simp only [Command.row, Command.short, h, h3, decide_false, true_and, Bool.false_eq_true, if_false]
    rw [CommandCode.ofByte_eq_some, eq_comm]

/-- R146, R147: BAD_COMMAND takes the short commands and those of unknown code. -/
theorem Command.row_eq_none {c : Command} :
    c.row = none ↔ c.len.toNat < 3 ∨ ∀ k : CommandCode, k.code ≠ c.codeByte := by
  by_cases h : c.len.toNat < 3
  · simp [Command.row, Command.short, h]
  · simp [Command.row, Command.short, h, CommandCode.ofByte_eq_none]

/-! ### Taking a command (R145, R156) -/

/-- R145, R156: when the engine takes a command. -/
theorem State.mayTake_iff {s : State} :
    s.mayTake = true ↔ s.phase = .running ∧ s.me.run = .taking ∧ s.me.responses.length < 8 := by
  simp only [State.mayTake, State.running, Bool.and_eq_true, beq_iff_eq, decide_eq_true_eq, and_assoc]
  rfl

/-- R145: the oldest command is the row's, and the engine takes it. -/
theorem State.takeCommand_eq_execute {s : State} {c : Command} {rest : List Command} {row : Option CommandCode}
    {run : List Byte → State → State × Answer} (hm : s.mayTake = true) (hc : s.me.commands = c :: rest)
    (hr : c.row = row) : s.takeCommand row run = (s.setMe { s.me with commands := rest }).execute c run := by
  simp [State.takeCommand, hm, hc, hr]

/-- R145, R156: the engine does not take. -/
theorem State.takeCommand_of_not_mayTake {s : State} {row : Option CommandCode}
    {run : List Byte → State → State × Answer} (hm : s.mayTake = false) : s.takeCommand row run = s := by
  simp [State.takeCommand, hm]

/-- R145: no command waits. -/
theorem State.takeCommand_of_empty {s : State} {row : Option CommandCode} {run : List Byte → State → State × Answer}
    (hc : s.me.commands = []) : s.takeCommand row run = s := by
  simp [State.takeCommand, hc]

/-- R145: the oldest command is another row's. -/
theorem State.takeCommand_of_row_ne {s : State} {c : Command} {rest : List Command} {row : Option CommandCode}
    {run : List Byte → State → State × Answer} (hc : s.me.commands = c :: rest) (hr : c.row ≠ row) :
    s.takeCommand row run = s := by
  simp [State.takeCommand, hc, hr]

/-- R145: what a row of the engine can do: nothing, or answer the oldest command. -/
theorem State.takeCommand_cases (s : State) (row : Option CommandCode) (run : List Byte → State → State × Answer) :
    s.takeCommand row run = s ∨
      ∃ c rest, s.phase = .running ∧ s.me.run = .taking ∧ s.me.responses.length < 8 ∧ s.me.commands = c :: rest ∧
        c.row = row ∧ s.takeCommand row run = (s.setMe { s.me with commands := rest }).execute c run := by
  by_cases hm : s.mayTake = true
  · cases hc : s.me.commands with
    | nil => exact .inl (State.takeCommand_of_empty hc)
    | cons c rest =>
      by_cases hr : c.row = row
      · obtain ⟨h1, h2, h3⟩ := State.mayTake_iff.mp hm
        exact .inr ⟨c, rest, h1, h2, h3, rfl, hr, State.takeCommand_eq_execute hm hc hr⟩
      · exact .inl (State.takeCommand_of_row_ne hc hr)
  · exact .inl (State.takeCommand_of_not_mayTake (by simpa using hm))

/-! ### The three answers (R146 to R150) -/

/-- R146: a short command is answered without the cache. -/
theorem State.execute_of_short {s : State} {c : Command} {run : List Byte → State → State × Answer}
    (h : c.len.toNat < 3) :
    s.execute c run = s.appendResponse (s.record c (Answer.refuse .badCommand 255#8)) := by
  simp [State.execute, Command.short, h]

/-- R146, R150: a duplicate is answered with the cached record, marked as replayed. -/
theorem State.execute_of_duplicate {s : State} {c : Command} {run : List Byte → State → State × Answer}
    {e : CacheEntry} (h : 3 ≤ c.len.toNat) (he : s.me.cache = some e) (hs : e.seq = c.seq) :
    s.execute c run = s.appendResponse { e.record with replayed := true } := by
  have h' : ¬ c.len.toNat < 3 := by omega
  simp [State.execute, State.duplicateOf, Command.short, h', he, hs]

/-- R148, R149: any other command is answered by its owner. -/
theorem State.execute_of_fresh {s : State} {c : Command} {run : List Byte → State → State × Answer}
    (h : 3 ≤ c.len.toNat) (hs : s.me.cache.map CacheEntry.seq ≠ some c.seq) :
    s.execute c run = (run c.params s).1.answer c (run c.params s).2 := by
  have h' : ¬ c.len.toNat < 3 := by omega
  cases he : s.me.cache with
  | none => simp [State.execute, State.duplicateOf, Command.short, h', he]
  | some e =>
    have : e.seq ≠ c.seq := fun x => hs (by simp [he, x])
    simp [State.execute, State.duplicateOf, Command.short, h', he, this]

/-- R146 to R150: what the engine can answer a command with. -/
theorem State.execute_cases (s : State) (c : Command) (run : List Byte → State → State × Answer) :
    s.execute c run = s.appendResponse (s.record c (Answer.refuse .badCommand 255#8)) ∨
      (∃ e, s.me.cache = some e ∧ s.execute c run = s.appendResponse { e.record with replayed := true }) ∨
      s.execute c run = (run c.params s).1.answer c (run c.params s).2 := by
  by_cases h : c.len.toNat < 3
  · exact .inl (State.execute_of_short h)
  · by_cases hs : s.me.cache.map CacheEntry.seq = some c.seq
    · obtain ⟨e, he, hs⟩ := Option.map_eq_some_iff.mp hs
      exact .inr (.inl ⟨e, he, State.execute_of_duplicate (by omega) he hs⟩)
    · exact .inr (.inr (State.execute_of_fresh (by omega) hs))

/-- R145 to R149: a command that is neither short nor a duplicate, taken by its row. -/
theorem State.takeCommand_of_fresh {s : State} {c : Command} {rest : List Command} {row : Option CommandCode}
    {run : List Byte → State → State × Answer} (hm : s.mayTake = true) (hc : s.me.commands = c :: rest)
    (hr : c.row = row) (hl : 3 ≤ c.len.toNat) (hs : s.me.cache.map CacheEntry.seq ≠ some c.seq) :
    s.takeCommand row run =
      (run c.params (s.setMe { s.me with commands := rest })).1.answer c
        (run c.params (s.setMe { s.me with commands := rest })).2 :=
  (State.takeCommand_eq_execute hm hc hr).trans (State.execute_of_fresh hl hs)

/-- R145, R146, R150: a duplicate, taken by the row of its own code. -/
theorem State.takeCommand_of_duplicate {s : State} {c : Command} {rest : List Command} {row : Option CommandCode}
    {run : List Byte → State → State × Answer} {e : CacheEntry} (hm : s.mayTake = true)
    (hc : s.me.commands = c :: rest) (hr : c.row = row) (hl : 3 ≤ c.len.toNat) (he : s.me.cache = some e)
    (hs : e.seq = c.seq) :
    s.takeCommand row run =
      (s.setMe { s.me with commands := rest }).appendResponse { e.record with replayed := true } :=
  (State.takeCommand_eq_execute hm hc hr).trans
    (State.execute_of_duplicate (s := s.setMe { s.me with commands := rest }) hl he hs)

/-! ### Appending a response changes the engine alone -/

section Appending

variable (s : State) (r : Response) (c : Command) (a : Answer)

@[simp] theorem State.appendResponse_phase : (s.appendResponse r).phase = s.phase := rfl
@[simp] theorem State.appendResponse_pins : (s.appendResponse r).pins = s.pins := rfl
@[simp] theorem State.appendResponse_sched : (s.appendResponse r).sched = s.sched := rfl
@[simp] theorem State.appendResponse_qm : (s.appendResponse r).qm = s.qm := rfl
@[simp] theorem State.appendResponse_flows : (s.appendResponse r).flows = s.flows := rfl
@[simp] theorem State.appendResponse_ports : (s.appendResponse r).ports = s.ports := rfl
@[simp] theorem State.appendResponse_trunk : (s.appendResponse r).trunk = s.trunk := rfl
@[simp] theorem State.appendResponse_df : (s.appendResponse r).df = s.df := rfl
@[simp] theorem State.appendResponse_nu : (s.appendResponse r).nu = s.nu := rfl
@[simp] theorem State.appendResponse_pending : (s.appendResponse r).pending = s.pending := rfl
@[simp] theorem State.appendResponse_me :
    (s.appendResponse r).me = { s.me with responses := s.me.responses ++ [r] } := rfl

@[simp] theorem State.answer_phase : (s.answer c a).phase = s.phase := rfl
@[simp] theorem State.answer_pins : (s.answer c a).pins = s.pins := rfl
@[simp] theorem State.answer_sched : (s.answer c a).sched = s.sched := rfl
@[simp] theorem State.answer_qm : (s.answer c a).qm = s.qm := rfl
@[simp] theorem State.answer_flows : (s.answer c a).flows = s.flows := rfl
@[simp] theorem State.answer_ports : (s.answer c a).ports = s.ports := rfl
@[simp] theorem State.answer_trunk : (s.answer c a).trunk = s.trunk := rfl
@[simp] theorem State.answer_df : (s.answer c a).df = s.df := rfl
@[simp] theorem State.answer_nu : (s.answer c a).nu = s.nu := rfl
@[simp] theorem State.answer_pending : (s.answer c a).pending = s.pending := rfl
@[simp] theorem State.answer_me :
    (s.answer c a).me = { s.me with
      responses := s.me.responses ++ [s.record c a], cache := some { seq := c.seq, record := s.record c a } } := rfl

end Appending

/-! ### The checks of the parameters (R147) -/

/-- R147: parameters that pass their checks reach the owner. -/
theorem checked_of_none {need : Nat} {checks : List (Nat × Bool)} {p : List Byte} {s : State} {owner : State × Answer}
    (h : badOffset need checks p = none) : checked need checks p s owner = owner := by
  simp [checked, h]

/-- R147: parameters that fail a check are refused and change nothing. -/
theorem checked_of_some {need off : Nat} {checks : List (Nat × Bool)} {p : List Byte} {s : State}
    {owner : State × Answer} (h : badOffset need checks p = some off) :
    checked need checks p s owner = (s, .badParam off) := by
  simp [checked, h]

/-- R147: what the engine does with the parameters of a command. -/
theorem checked_cases (need : Nat) (checks : List (Nat × Bool)) (p : List Byte) (s : State) (owner : State × Answer) :
    checked need checks p s owner = owner ∧ badOffset need checks p = none ∨
      ∃ off, checked need checks p s owner = (s, .badParam off) := by
  cases h : badOffset need checks p with
  | none => exact .inl ⟨checked_of_none h, rfl⟩
  | some off => exact .inr ⟨off, checked_of_some h⟩

/-- R147: all checks pass. -/
theorem badOffset_eq_none {need : Nat} {checks : List (Nat × Bool)} {p : List Byte} :
    badOffset need checks p = none ↔ need ≤ p.length ∧ ∀ c ∈ checks, c.2 = true := by
  have first : ∀ l : List (Nat × Bool), firstBad l = none ↔ ∀ c ∈ l, c.2 = true := by
    intro l
    induction l with
    | nil => simp [firstBad]
    | cons c l ih => obtain ⟨off, good⟩ := c; cases good <;> simp [firstBad, ih]
  by_cases h : p.length < need
  · simp [badOffset, h]
  · simp only [badOffset, h, if_false, first]
    constructor
    · exact fun x => ⟨by omega, x⟩
    · exact fun x => x.2

end Sys2Proof.Machine
end

