-- ==== Sys2Proof/Laws/Operands.lean ====
section
/-! SUPPORT. Reading a parameter byte back: a byte that codes a bank, a class, a port, a flow index, a flag or an option
passes its range check and names what it codes. -/

namespace Sys2Proof.Machine

@[simp] theorem bankOf_code (bk : BankId) : bankOf bk.code = bk := by
  cases bk <;> rfl

@[simp] theorem modeOf_code (m : CommitMode) : modeOf m.code = m := by
  cases m <;> rfl

@[simp] theorem policingOf_code (a : Policing) : policingOf a.code = a := by
  cases a <;> rfl

@[simp] theorem policyOf_code (u : UnknownPolicy) : policyOf u.code = u := by
  cases u <;> rfl

@[simp] theorem isFlag_bankCode (bk : BankId) : isFlag bk.code = true := by
  cases bk <;> rfl

@[simp] theorem isFlag_modeCode (m : CommitMode) : isFlag m.code = true := by
  cases m <;> rfl

@[simp] theorem isFlag_policyCode (u : UnknownPolicy) : isFlag u.code = true := by
  cases u <;> rfl

@[simp] theorem isFlag_flagByte (b : Bool) : isFlag (flagByte b) = true := by
  cases b <;> rfl

@[simp] theorem flagByte_beq_one (b : Bool) : (flagByte b == 1#8) = b := by
  cases b <;> rfl

@[simp] theorem classOf_ofNat (k : ClassId) : classOf (BitVec.ofNat 8 k.val) = k := by
  have h : k.val % 256 = k.val := Nat.mod_eq_of_lt (by omega)
  simp [classOf, h]

@[simp] theorem portOf_ofNat (p : PortId) : portOf (BitVec.ofNat 8 p.val) = p := by
  have h : p.val % 256 = p.val := Nat.mod_eq_of_lt (by omega)
  simp [portOf, h]

@[simp] theorem flowIndexOf_ofNat (i : FlowIndex) : flowIndexOf (BitVec.ofNat 8 i.val) = i := by
  simp [flowIndexOf]

/-- A byte that codes one of `n` things, `n` at most 256, is below `n`. -/
@[simp] theorem isBelow_ofNat {n : Nat} (i : Fin n) (h : n ≤ 256) : isBelow n (BitVec.ofNat 8 i.val) = true := by
  have h' : i.val % 256 = i.val := Nat.mod_eq_of_lt (by omega)
  simp [isBelow, h']

/-- R147: checks that stand in order, the first good. -/
@[simp] theorem firstBad_good (off : Nat) (rest : List (Nat × Bool)) : firstBad ((off, true) :: rest) = firstBad rest :=
  rfl

/-- R147: checks that stand in order, the first bad. -/
@[simp] theorem firstBad_bad (off : Nat) (rest : List (Nat × Bool)) : firstBad ((off, false) :: rest) = some off :=
  rfl

@[simp] theorem firstBad_nil : firstBad [] = none :=
  rfl

/-- R147: a missing byte is reported before any range check. -/
theorem badOffset_of_short {need : Nat} {checks : List (Nat × Bool)} {p : List Byte} (h : p.length < need) :
    badOffset need checks p = some p.length := by
  simp [badOffset, h]

/-- R147: with every byte there, the first failing range check decides. -/
theorem badOffset_of_long {need : Nat} {checks : List (Nat × Bool)} {p : List Byte} (h : need ≤ p.length) :
    badOffset need checks p = firstBad checks := by
  have : ¬ p.length < need := by omega
  simp [badOffset, this]

end Sys2Proof.Machine
end

