-- ==== Sys2Proof/Laws/Frames.lean ====
section
/-! SUPPORT. What the composite operations leave alone, one lemma for each block, and how a property of the part passes
through a row of the engine. -/

namespace Sys2Proof.Machine

/-! ### Rows of the engine -/

/-- What every appended response and every owner keeps, a row of the engine keeps. -/
theorem State.takeCommand_keeps {P : State → Prop} {row : Option CommandCode} {run : List Byte → State → State × Answer}
    (hme : ∀ s m, P s → P (s.setMe m)) (hrun : ∀ p s, P s → P (run p s).1) {s : State} (h : P s) :
    P (s.takeCommand row run) := by
  rcases s.takeCommand_cases row run with h1 | ⟨c, rest, _, _, _, _, _, h1⟩
  · rw [h1]; exact h
  · have h0 := hme s { s.me with commands := rest } h
    rw [h1]
    rcases (s.setMe { s.me with commands := rest }).execute_cases c run with h2 | ⟨e, _, h2⟩ | h2 <;> rw [h2]
    · exact hme _ _ h0
    · exact hme _ _ h0
    · exact hme _ _ (hrun _ _ h0)

/-- R147: what the owner keeps, the checked command keeps. -/
theorem checked_keeps {P : State → Prop} {need : Nat} {checks : List (Nat × Bool)} {p : List Byte} {s : State}
    {owner : State × Answer} (h : P s) (ho : P owner.1) : P (checked need checks p s owner).1 := by
  rcases checked_cases need checks p s owner with ⟨h1, _⟩ | ⟨off, h1⟩ <;> rw [h1]
  · exact ho
  · exact h

/-! ### A change of a port's state (R115) -/

section

variable (s : State) (p : PortId) (new : PortState) (cause : PortCause)

@[simp] theorem State.enterPort_phase : (s.enterPort p new cause).phase = s.phase := by
  simp [State.enterPort]

@[simp] theorem State.enterPort_pins : (s.enterPort p new cause).pins = s.pins := by
  simp [State.enterPort]

@[simp] theorem State.enterPort_sched : (s.enterPort p new cause).sched = s.sched := by
  simp [State.enterPort]

@[simp] theorem State.enterPort_qm : (s.enterPort p new cause).qm = s.qm := by
  simp [State.enterPort]

@[simp] theorem State.enterPort_flows : (s.enterPort p new cause).flows = s.flows := by
  simp [State.enterPort]

@[simp] theorem State.enterPort_trunk : (s.enterPort p new cause).trunk = s.trunk := by
  simp [State.enterPort]

@[simp] theorem State.enterPort_df : (s.enterPort p new cause).df = s.df := by
  simp [State.enterPort]

@[simp] theorem State.enterPort_me : (s.enterPort p new cause).me = s.me := by
  simp [State.enterPort]

@[simp] theorem State.enterPort_pending : (s.enterPort p new cause).pending = s.pending := by
  simp [State.enterPort]

end

/-! ### An offer to the ports (R119) -/

section

variable (s : State) (named : PortId → Bool) (c : Cell)

@[simp] theorem State.offerPorts_phase : (s.offerPorts named c).phase = s.phase := by
  rfl

@[simp] theorem State.offerPorts_pins : (s.offerPorts named c).pins = s.pins := by
  rfl

@[simp] theorem State.offerPorts_sched : (s.offerPorts named c).sched = s.sched := by
  rfl

@[simp] theorem State.offerPorts_qm : (s.offerPorts named c).qm = s.qm := by
  rfl

@[simp] theorem State.offerPorts_flows : (s.offerPorts named c).flows = s.flows := by
  rfl

@[simp] theorem State.offerPorts_trunk : (s.offerPorts named c).trunk = s.trunk := by
  rfl

@[simp] theorem State.offerPorts_df : (s.offerPorts named c).df = s.df := by
  rfl

@[simp] theorem State.offerPorts_me : (s.offerPorts named c).me = s.me := by
  rfl

@[simp] theorem State.offerPorts_nu : (s.offerPorts named c).nu = s.nu := by
  rfl

@[simp] theorem State.offerPorts_pending : (s.offerPorts named c).pending = s.pending := by
  rfl

end

/-! ### A cell on the trunk (R125) -/

section

variable (s : State) (c : Cell)

@[simp] theorem State.transmit_phase : (s.transmit c).phase = s.phase := by
  rfl

@[simp] theorem State.transmit_pins : (s.transmit c).pins = s.pins := by
  rfl

@[simp] theorem State.transmit_sched : (s.transmit c).sched = s.sched := by
  rfl

@[simp] theorem State.transmit_qm : (s.transmit c).qm = s.qm := by
  rfl

@[simp] theorem State.transmit_flows : (s.transmit c).flows = s.flows := by
  rfl

@[simp] theorem State.transmit_ports : (s.transmit c).ports = s.ports := by
  rfl

@[simp] theorem State.transmit_df : (s.transmit c).df = s.df := by
  rfl

@[simp] theorem State.transmit_me : (s.transmit c).me = s.me := by
  rfl

@[simp] theorem State.transmit_nu : (s.transmit c).nu = s.nu := by
  rfl

@[simp] theorem State.transmit_pending : (s.transmit c).pending = s.pending := by
  rfl

end

/-! ### The chosen source (R42) -/

section

variable (s : State) (src : Source)

@[simp] theorem State.send_phase : (s.send src).phase = s.phase := by
  unfold State.send; split <;> first | (split <;> rfl) | rfl

@[simp] theorem State.send_pins : (s.send src).pins = s.pins := by
  unfold State.send; split <;> first | (split <;> rfl) | rfl

@[simp] theorem State.send_sched : (s.send src).sched = s.sched := by
  unfold State.send; split <;> first | (split <;> rfl) | rfl

@[simp] theorem State.send_flows : (s.send src).flows = s.flows := by
  unfold State.send; split <;> first | (split <;> rfl) | rfl

@[simp] theorem State.send_ports : (s.send src).ports = s.ports := by
  unfold State.send; split <;> first | (split <;> rfl) | rfl

@[simp] theorem State.send_df : (s.send src).df = s.df := by
  unfold State.send; split <;> first | (split <;> rfl) | rfl

@[simp] theorem State.send_pending : (s.send src).pending = s.pending := by
  unfold State.send; split <;> first | (split <;> rfl) | rfl

end

/-! ### The service of a slot (R41) -/

section

variable (s : State) (kind : SlotKind)

@[simp] theorem State.serve_phase : (s.serve kind).phase = s.phase := by
  unfold State.serve; split <;> simp [State.serveFree]

@[simp] theorem State.serve_pins : (s.serve kind).pins = s.pins := by
  unfold State.serve; split <;> simp [State.serveFree]

@[simp] theorem State.serve_sched : (s.serve kind).sched = s.sched := by
  unfold State.serve; split <;> simp [State.serveFree]

@[simp] theorem State.serve_flows : (s.serve kind).flows = s.flows := by
  unfold State.serve; split <;> simp [State.serveFree]

@[simp] theorem State.serve_ports : (s.serve kind).ports = s.ports := by
  unfold State.serve; split <;> simp [State.serveFree]

@[simp] theorem State.serve_df : (s.serve kind).df = s.df := by
  unfold State.serve; split <;> simp [State.serveFree]

@[simp] theorem State.serve_pending : (s.serve kind).pending = s.pending := by
  unfold State.serve; split <;> simp [State.serveFree]

end

/-! ### The start of a slot (R21 to R25) -/

section

variable (s : State) 

@[simp] theorem State.beginSlot_phase : (s.beginSlot).phase = s.phase := by
  simp [State.beginSlot]

@[simp] theorem State.beginSlot_pins : (s.beginSlot).pins = s.pins := by
  simp [State.beginSlot]

@[simp] theorem State.beginSlot_qm : (s.beginSlot).qm = s.qm := by
  simp [State.beginSlot]

@[simp] theorem State.beginSlot_flows : (s.beginSlot).flows = s.flows := by
  simp [State.beginSlot]

@[simp] theorem State.beginSlot_ports : (s.beginSlot).ports = s.ports := by
  simp [State.beginSlot]

@[simp] theorem State.beginSlot_trunk : (s.beginSlot).trunk = s.trunk := by
  simp [State.beginSlot]

@[simp] theorem State.beginSlot_df : (s.beginSlot).df = s.df := by
  simp [State.beginSlot]

@[simp] theorem State.beginSlot_me : (s.beginSlot).me = s.me := by
  simp [State.beginSlot]

@[simp] theorem State.beginSlot_pending : (s.beginSlot).pending = s.pending := by
  simp [State.beginSlot]

@[simp] theorem State.beginSlotApart_phase : (s.beginSlotApart).phase = s.phase := by
  simp [State.beginSlotApart]

@[simp] theorem State.beginSlotApart_pins : (s.beginSlotApart).pins = s.pins := by
  simp [State.beginSlotApart]

@[simp] theorem State.beginSlotApart_qm : (s.beginSlotApart).qm = s.qm := by
  simp [State.beginSlotApart]

@[simp] theorem State.beginSlotApart_flows : (s.beginSlotApart).flows = s.flows := by
  simp [State.beginSlotApart]

@[simp] theorem State.beginSlotApart_ports : (s.beginSlotApart).ports = s.ports := by
  simp [State.beginSlotApart]

@[simp] theorem State.beginSlotApart_trunk : (s.beginSlotApart).trunk = s.trunk := by
  simp [State.beginSlotApart]

@[simp] theorem State.beginSlotApart_df : (s.beginSlotApart).df = s.df := by
  simp [State.beginSlotApart]

@[simp] theorem State.beginSlotApart_me : (s.beginSlotApart).me = s.me := by
  simp [State.beginSlotApart]

@[simp] theorem State.beginSlotApart_pending : (s.beginSlotApart).pending = s.pending := by
  simp [State.beginSlotApart]

/-- R162, R167: the two starts of a slot differ in the notice unit alone. -/
@[simp] theorem State.beginSlotApart_sched : (s.beginSlotApart).sched = (s.beginSlot).sched := by
  simp [State.beginSlotApart, State.beginSlot]

end

/-! ### A cell on a station link (R117, R118) -/

section

variable (s : State) (p : PortId) (bytes : List Byte)

@[simp] theorem State.receiveAt_phase : (s.receiveAt p bytes).phase = s.phase := by
  unfold State.receiveAt State.takeBad; split <;> first | (split <;> first | (split <;> simp) | simp) | simp

@[simp] theorem State.receiveAt_pins : (s.receiveAt p bytes).pins = s.pins := by
  unfold State.receiveAt State.takeBad; split <;> first | (split <;> first | (split <;> simp) | simp) | simp

@[simp] theorem State.receiveAt_sched : (s.receiveAt p bytes).sched = s.sched := by
  unfold State.receiveAt State.takeBad; split <;> first | (split <;> first | (split <;> simp) | simp) | simp

@[simp] theorem State.receiveAt_qm : (s.receiveAt p bytes).qm = s.qm := by
  unfold State.receiveAt State.takeBad; split <;> first | (split <;> first | (split <;> simp) | simp) | simp

@[simp] theorem State.receiveAt_flows : (s.receiveAt p bytes).flows = s.flows := by
  unfold State.receiveAt State.takeBad; split <;> first | (split <;> first | (split <;> simp) | simp) | simp

@[simp] theorem State.receiveAt_trunk : (s.receiveAt p bytes).trunk = s.trunk := by
  unfold State.receiveAt State.takeBad; split <;> first | (split <;> first | (split <;> simp) | simp) | simp

@[simp] theorem State.receiveAt_df : (s.receiveAt p bytes).df = s.df := by
  unfold State.receiveAt State.takeBad; split <;> first | (split <;> first | (split <;> simp) | simp) | simp

@[simp] theorem State.receiveAt_me : (s.receiveAt p bytes).me = s.me := by
  unfold State.receiveAt State.takeBad; split <;> first | (split <;> first | (split <;> simp) | simp) | simp

@[simp] theorem State.receiveAt_pending : (s.receiveAt p bytes).pending = s.pending := by
  unfold State.receiveAt State.takeBad; split <;> first | (split <;> first | (split <;> simp) | simp) | simp

end

/-! ### Line signal on a station link (R114) -/

section

variable (s : State) (p : PortId)

@[simp] theorem State.gainSignal_phase : (s.gainSignal p).phase = s.phase := by
  unfold State.gainSignal; split <;> simp

@[simp] theorem State.gainSignal_pins : (s.gainSignal p).pins = s.pins := by
  unfold State.gainSignal; split <;> simp

@[simp] theorem State.gainSignal_sched : (s.gainSignal p).sched = s.sched := by
  unfold State.gainSignal; split <;> simp

@[simp] theorem State.gainSignal_qm : (s.gainSignal p).qm = s.qm := by
  unfold State.gainSignal; split <;> simp

@[simp] theorem State.gainSignal_flows : (s.gainSignal p).flows = s.flows := by
  unfold State.gainSignal; split <;> simp

@[simp] theorem State.gainSignal_trunk : (s.gainSignal p).trunk = s.trunk := by
  unfold State.gainSignal; split <;> simp

@[simp] theorem State.gainSignal_df : (s.gainSignal p).df = s.df := by
  unfold State.gainSignal; split <;> simp

@[simp] theorem State.gainSignal_me : (s.gainSignal p).me = s.me := by
  unfold State.gainSignal; split <;> simp

@[simp] theorem State.gainSignal_pending : (s.gainSignal p).pending = s.pending := by
  unfold State.gainSignal; split <;> simp

end

/-! ### Loss of line signal on a station link (R114) -/

section

variable (s : State) (p : PortId)

@[simp] theorem State.loseSignal_phase : (s.loseSignal p).phase = s.phase := by
  unfold State.loseSignal; split <;> simp

@[simp] theorem State.loseSignal_pins : (s.loseSignal p).pins = s.pins := by
  unfold State.loseSignal; split <;> simp

@[simp] theorem State.loseSignal_sched : (s.loseSignal p).sched = s.sched := by
  unfold State.loseSignal; split <;> simp

@[simp] theorem State.loseSignal_qm : (s.loseSignal p).qm = s.qm := by
  unfold State.loseSignal; split <;> simp

@[simp] theorem State.loseSignal_flows : (s.loseSignal p).flows = s.flows := by
  unfold State.loseSignal; split <;> simp

@[simp] theorem State.loseSignal_trunk : (s.loseSignal p).trunk = s.trunk := by
  unfold State.loseSignal; split <;> simp

@[simp] theorem State.loseSignal_df : (s.loseSignal p).df = s.df := by
  unfold State.loseSignal; split <;> simp

@[simp] theorem State.loseSignal_me : (s.loseSignal p).me = s.me := by
  unfold State.loseSignal; split <;> simp

@[simp] theorem State.loseSignal_pending : (s.loseSignal p).pending = s.pending := by
  unfold State.loseSignal; split <;> simp

end

/-! ### Classification (R80) -/

section

variable (s : State) (p : PortId)

@[simp] theorem State.classifyNext_phase : (s.classifyNext p).phase = s.phase := by
  unfold State.classifyNext State.classify
  split
  · rfl
  · simp only [State.updPort_phase]
    split
    · rfl
    · split
      · rfl
      · split
        · rfl
        · simp [State.measureFlow]

@[simp] theorem State.classifyNext_pins : (s.classifyNext p).pins = s.pins := by
  unfold State.classifyNext State.classify
  split
  · rfl
  · simp only [State.updPort_pins]
    split
    · rfl
    · split
      · rfl
      · split
        · rfl
        · simp [State.measureFlow]

@[simp] theorem State.classifyNext_sched : (s.classifyNext p).sched = s.sched := by
  unfold State.classifyNext State.classify
  split
  · rfl
  · simp only [State.updPort_sched]
    split
    · rfl
    · split
      · rfl
      · split
        · rfl
        · simp [State.measureFlow]

@[simp] theorem State.classifyNext_qm : (s.classifyNext p).qm = s.qm := by
  unfold State.classifyNext State.classify
  split
  · rfl
  · simp only [State.updPort_qm]
    split
    · rfl
    · split
      · rfl
      · split
        · rfl
        · simp [State.measureFlow]

@[simp] theorem State.classifyNext_trunk : (s.classifyNext p).trunk = s.trunk := by
  unfold State.classifyNext State.classify
  split
  · rfl
  · simp only [State.updPort_trunk]
    split
    · rfl
    · split
      · rfl
      · split
        · rfl
        · simp [State.measureFlow]

@[simp] theorem State.classifyNext_df : (s.classifyNext p).df = s.df := by
  unfold State.classifyNext State.classify
  split
  · rfl
  · simp only [State.updPort_df]
    split
    · rfl
    · split
      · rfl
      · split
        · rfl
        · simp [State.measureFlow]

@[simp] theorem State.classifyNext_me : (s.classifyNext p).me = s.me := by
  unfold State.classifyNext State.classify
  split
  · rfl
  · simp only [State.updPort_me]
    split
    · rfl
    · split
      · rfl
      · split
        · rfl
        · simp [State.measureFlow]

@[simp] theorem State.classifyNext_pending : (s.classifyNext p).pending = s.pending := by
  unfold State.classifyNext State.classify
  split
  · rfl
  · simp only [State.updPort_pending]
    split
    · rfl
    · split
      · rfl
      · split
        · rfl
        · simp [State.measureFlow]

end

/-! ### Admission (R63 to R65) -/

section

variable (s : State) (p : PortId)

@[simp] theorem State.admitNext_phase : (s.admitNext p).phase = s.phase := by
  unfold State.admitNext
  split
  · unfold State.takeOffer
    split
    · rfl
    · unfold State.countFlowDrop; split <;> rfl
  · rfl
  · rfl

@[simp] theorem State.admitNext_pins : (s.admitNext p).pins = s.pins := by
  unfold State.admitNext
  split
  · unfold State.takeOffer
    split
    · rfl
    · unfold State.countFlowDrop; split <;> rfl
  · rfl
  · rfl

@[simp] theorem State.admitNext_sched : (s.admitNext p).sched = s.sched := by
  unfold State.admitNext
  split
  · unfold State.takeOffer
    split
    · rfl
    · unfold State.countFlowDrop; split <;> rfl
  · rfl
  · rfl

@[simp] theorem State.admitNext_trunk : (s.admitNext p).trunk = s.trunk := by
  unfold State.admitNext
  split
  · unfold State.takeOffer
    split
    · rfl
    · unfold State.countFlowDrop; split <;> rfl
  · rfl
  · rfl

@[simp] theorem State.admitNext_df : (s.admitNext p).df = s.df := by
  unfold State.admitNext
  split
  · unfold State.takeOffer
    split
    · rfl
    · unfold State.countFlowDrop; split <;> rfl
  · rfl
  · rfl

@[simp] theorem State.admitNext_me : (s.admitNext p).me = s.me := by
  unfold State.admitNext
  split
  · unfold State.takeOffer
    split
    · rfl
    · unfold State.countFlowDrop; split <;> rfl
  · rfl
  · rfl

@[simp] theorem State.admitNext_nu : (s.admitNext p).nu = s.nu := by
  unfold State.admitNext
  split
  · unfold State.takeOffer
    split
    · rfl
    · unfold State.countFlowDrop; split <;> rfl
  · rfl
  · rfl

@[simp] theorem State.admitNext_pending : (s.admitNext p).pending = s.pending := by
  unfold State.admitNext
  split
  · unfold State.takeOffer
    split
    · rfl
    · unfold State.countFlowDrop; split <;> rfl
  · rfl
  · rfl

end

/-! ### The trunk signal (R127) -/

section

variable (s : State) (up : Bool)

@[simp] theorem State.changeTrunkSignal_phase : (s.changeTrunkSignal up).phase = s.phase := by
  unfold State.changeTrunkSignal; split <;> simp

@[simp] theorem State.changeTrunkSignal_pins : (s.changeTrunkSignal up).pins = s.pins := by
  unfold State.changeTrunkSignal; split <;> simp

@[simp] theorem State.changeTrunkSignal_sched : (s.changeTrunkSignal up).sched = s.sched := by
  unfold State.changeTrunkSignal; split <;> simp

@[simp] theorem State.changeTrunkSignal_qm : (s.changeTrunkSignal up).qm = s.qm := by
  unfold State.changeTrunkSignal; split <;> simp

@[simp] theorem State.changeTrunkSignal_flows : (s.changeTrunkSignal up).flows = s.flows := by
  unfold State.changeTrunkSignal; split <;> simp

@[simp] theorem State.changeTrunkSignal_ports : (s.changeTrunkSignal up).ports = s.ports := by
  unfold State.changeTrunkSignal; split <;> simp

@[simp] theorem State.changeTrunkSignal_df : (s.changeTrunkSignal up).df = s.df := by
  unfold State.changeTrunkSignal; split <;> simp

@[simp] theorem State.changeTrunkSignal_me : (s.changeTrunkSignal up).me = s.me := by
  unfold State.changeTrunkSignal; split <;> simp

@[simp] theorem State.changeTrunkSignal_pending : (s.changeTrunkSignal up).pending = s.pending := by
  unfold State.changeTrunkSignal; split <;> simp

end

/-! ### The forwarder (R128) -/

section

variable (s : State) (c : Cell)

@[simp] theorem State.forward_phase : (s.forward c).phase = s.phase := by
  unfold State.forward
  split
  · split
    · unfold State.queueCommand; split <;> rfl
    · unfold State.relayCommand; split <;> rfl
  · unfold State.forwardData
    split
    · rfl
    · split <;> rfl
  · rfl
  · rfl
  · rfl

@[simp] theorem State.forward_pins : (s.forward c).pins = s.pins := by
  unfold State.forward
  split
  · split
    · unfold State.queueCommand; split <;> rfl
    · unfold State.relayCommand; split <;> rfl
  · unfold State.forwardData
    split
    · rfl
    · split <;> rfl
  · rfl
  · rfl
  · rfl

@[simp] theorem State.forward_sched : (s.forward c).sched = s.sched := by
  unfold State.forward
  split
  · split
    · unfold State.queueCommand; split <;> rfl
    · unfold State.relayCommand; split <;> rfl
  · unfold State.forwardData
    split
    · rfl
    · split <;> rfl
  · rfl
  · rfl
  · rfl

@[simp] theorem State.forward_qm : (s.forward c).qm = s.qm := by
  unfold State.forward
  split
  · split
    · unfold State.queueCommand; split <;> rfl
    · unfold State.relayCommand; split <;> rfl
  · unfold State.forwardData
    split
    · rfl
    · split <;> rfl
  · rfl
  · rfl
  · rfl

@[simp] theorem State.forward_flows : (s.forward c).flows = s.flows := by
  unfold State.forward
  split
  · split
    · unfold State.queueCommand; split <;> rfl
    · unfold State.relayCommand; split <;> rfl
  · unfold State.forwardData
    split
    · rfl
    · split <;> rfl
  · rfl
  · rfl
  · rfl

@[simp] theorem State.forward_trunk : (s.forward c).trunk = s.trunk := by
  unfold State.forward
  split
  · split
    · unfold State.queueCommand; split <;> rfl
    · unfold State.relayCommand; split <;> rfl
  · unfold State.forwardData
    split
    · rfl
    · split <;> rfl
  · rfl
  · rfl
  · rfl

@[simp] theorem State.forward_nu : (s.forward c).nu = s.nu := by
  unfold State.forward
  split
  · split
    · unfold State.queueCommand; split <;> rfl
    · unfold State.relayCommand; split <;> rfl
  · unfold State.forwardData
    split
    · rfl
    · split <;> rfl
  · rfl
  · rfl
  · rfl

@[simp] theorem State.forward_pending : (s.forward c).pending = s.pending := by
  unfold State.forward
  split
  · split
    · unfold State.queueCommand; split <;> rfl
    · unfold State.relayCommand; split <;> rfl
  · unfold State.forwardData
    split
    · rfl
    · split <;> rfl
  · rfl
  · rfl
  · rfl

end

/-! ### The forwarder's take (R128) -/

section

variable (s : State) 

@[simp] theorem State.forwardNext_phase : (s.forwardNext).phase = s.phase := by
  unfold State.forwardNext
  split
  · rfl
  · simp

@[simp] theorem State.forwardNext_pins : (s.forwardNext).pins = s.pins := by
  unfold State.forwardNext
  split
  · rfl
  · simp

@[simp] theorem State.forwardNext_sched : (s.forwardNext).sched = s.sched := by
  unfold State.forwardNext
  split
  · rfl
  · simp

@[simp] theorem State.forwardNext_qm : (s.forwardNext).qm = s.qm := by
  unfold State.forwardNext
  split
  · rfl
  · simp

@[simp] theorem State.forwardNext_flows : (s.forwardNext).flows = s.flows := by
  unfold State.forwardNext
  split
  · rfl
  · simp

@[simp] theorem State.forwardNext_nu : (s.forwardNext).nu = s.nu := by
  unfold State.forwardNext
  split
  · rfl
  · simp

@[simp] theorem State.forwardNext_pending : (s.forwardNext).pending = s.pending := by
  unfold State.forwardNext
  split
  · rfl
  · simp

end

end Sys2Proof.Machine
end

