-- ==== Sys2Proof/Laws/Queues.lean ====
section
/-! SUPPORT. The queue manager's operations on the buffer indices (R59 to R69): what each does to the free list and to
the indices that the eight queues name. -/

namespace Sys2Proof.Machine

/-- A vector around one place, before and after an update of that place. -/
theorem updateAt_split {α : Type} {n : Nat} (v : Vector α n) (i : Fin n) :
    ∃ before after, v.toList = before ++ v[i] :: after ∧
      ∀ f, (updateAt v i f).toList = before ++ f v[i] :: after := by
  have hl : i.val < v.toList.length := by simp
  refine ⟨v.toList.take i, v.toList.drop (i + 1), ?_, fun f => ?_⟩
  · have h := List.take_append_drop i.val v.toList
    rw [List.drop_eq_getElem_cons hl] at h
    simpa using h.symm
  · rw [updateAt, Vector.toList_set, List.set_eq_take_append_cons_drop, if_pos hl]

/-- The indices named by a class that is updated, and by the others. -/
theorem QueueManager.queued_split (q : QueueManager) (k : ClassId) :
    ∃ before after, q.queued = before ++ q.classes[k].queue.map Descriptor.index ++ after ∧
      ∀ f, (q.updClass k f).queued = before ++ (f q.classes[k]).queue.map Descriptor.index ++ after := by
  obtain ⟨b, a, h1, h2⟩ := updateAt_split q.classes k
  refine ⟨b.flatMap (fun c => c.queue.map Descriptor.index), a.flatMap (fun c => c.queue.map Descriptor.index), ?_,
    fun f => ?_⟩
  · rw [QueueManager.queued, h1]; simp
  · rw [QueueManager.queued, QueueManager.updClass, h2]; simp

/-- An update that keeps a class's queue keeps the named indices. -/
theorem QueueManager.queued_updClass_of_queue {q : QueueManager} {k : ClassId} {f : ClassQueue → ClassQueue}
    (h : (f q.classes[k]).queue = q.classes[k].queue) : (q.updClass k f).queued = q.queued := by
  obtain ⟨b, a, h1, h2⟩ := q.queued_split k
  rw [h2, h, h1]

/-- R64: storing moves the index at the head of the free list to a class queue. -/
theorem QueueManager.store_perm (q : QueueManager) (o : Offer) :
    ((q.store o).free ++ (q.store o).queued).Perm (q.free ++ q.queued) := by
  unfold QueueManager.store
  split
  · exact List.Perm.refl _
  · rename_i i rest hf
    obtain ⟨b, a, h1, h2⟩ := QueueManager.queued_split
      { q with buffer := updateAt q.buffer i (fun _ => o.cell), free := rest } (q.targetOf o.target)
    have h1' : q.queued = _ := h1
    rw [h2, h1', hf]
    simp only [List.map_append, List.map_cons, List.map_nil]
    show (rest ++ (b ++ (_ ++ [i]) ++ a)).Perm (i :: (rest ++ (b ++ _ ++ a)))
    rw [show ∀ x : List (Fin 512), rest ++ (b ++ (x ++ [i]) ++ a) = (rest ++ (b ++ x)) ++ i :: a from fun x => by simp,
      show ∀ x : List (Fin 512), i :: (rest ++ (b ++ x ++ a)) = i :: ((rest ++ (b ++ x)) ++ a) from fun x => by simp]
    exact List.perm_middle

/-- R67: a dequeue moves the head index of a class to the tail of the free list. -/
theorem QueueManager.dequeue_perm (q : QueueManager) (k : ClassId) :
    ((q.dequeue k).free ++ (q.dequeue k).queued).Perm (q.free ++ q.queued) := by
  unfold QueueManager.dequeue
  split
  · exact List.Perm.refl _
  · rename_i d ds hq
    obtain ⟨b, a, h1, h2⟩ := QueueManager.queued_split { q with free := q.free ++ [d.index] } k
    have h1' : q.queued = _ := h1
    rw [h2, h1']
    have hs : ∀ c : ClassQueue, c.settleAge.queue = c.queue := fun c => by unfold ClassQueue.settleAge; split <;> rfl
    rw [hs, hq]
    simp only [List.map_cons, List.append_assoc, List.cons_append, QueueManager.updClass, List.nil_append]
    exact List.Perm.append_left q.free List.perm_middle.symm

/-- R69: a flush moves every index of a class to the free list. -/
theorem QueueManager.flush_perm (q : QueueManager) (k : ClassId) :
    ((q.flush k).free ++ (q.flush k).queued).Perm (q.free ++ q.queued) := by
  unfold QueueManager.flush
  obtain ⟨b, a, h1, h2⟩ := QueueManager.queued_split
    { q with free := q.free ++ q.classes[k].queue.map Descriptor.index } k
  have h1' : q.queued = _ := h1
  rw [h2, h1']
  simp only [List.map_nil, List.append_nil, QueueManager.updClass, List.append_assoc]
  refine List.Perm.append_left q.free ?_
  rw [← List.append_assoc, ← List.append_assoc]
  exact List.Perm.append_right a List.perm_append_comm

/-- R53: aging keeps the queues. -/
theorem QueueManager.queued_ageFree (q : QueueManager) (g : Option ClassId) : (q.ageFree g).queued = q.queued := by
  have hq : ∀ (c : ClassQueue) (x : Bool), (c.aged x).queue = c.queue := fun c x => by
    unfold ClassQueue.aged; split
    · rfl
    · split <;> rfl
  have hl : ∀ v : Vector ClassQueue 8, v.toList.flatMap (fun c => c.queue.map Descriptor.index) =
      (v.toList.map ClassQueue.queue).flatMap (fun l => l.map Descriptor.index) := fun v => by
    rw [List.flatMap_map]
  have hm : (q.ageFree g).classes.toList.map ClassQueue.queue = q.classes.toList.map ClassQueue.queue := by
    apply List.ext_getElem
    · simp
    · intro i h1 h2
      simp [QueueManager.ageFree, hq]
  rw [QueueManager.queued, QueueManager.queued, hl, hm, ← hl]

end Sys2Proof.Machine
end

