-- ==== Sys2Proof/Laws/Flows.lean ====
section
/-! SUPPORT. The searches of the flow table (R78, R81, R86, R87) and the hand-off list of a port (R63, R80): what each
answers, said once. -/

namespace Sys2Proof.Machine

variable {v : Vector FlowRecord 256} {id : BitVec 12} {i j : FlowIndex}

/-- R81: a miss. -/
theorem lookupFlow_eq_none : lookupFlow v id = none ↔ ∀ i : FlowIndex, v[i].valid = true → v[i].terms.flowId ≠ id := by
  simp [lookupFlow, List.find?_eq_none]

/-- R81: what a lookup finds is a valid record that carries the flow ID. -/
theorem lookupFlow_valid (h : lookupFlow v id = some j) : v[j].valid = true ∧ v[j].terms.flowId = id := by
  simpa only [Bool.and_eq_true, beq_iff_eq] using List.find?_some h

/-- R78: in a table without repeated flow IDs, a lookup finds the one valid record that carries the ID. -/
theorem lookupFlow_eq_some (hl : FlowLaws v) (hv : v[i].valid = true) (hid : v[i].terms.flowId = id) :
    lookupFlow v id = some i := by
  cases h : lookupFlow v id with
  | none => exact absurd hid (lookupFlow_eq_none.mp h i hv)
  | some j =>
    obtain ⟨h1, h2⟩ := lookupFlow_valid h
    rw [hl.unique i j hv h1 (hid.trans h2.symm)]

/-- R87: no other valid record carries the flow ID. -/
theorem duplicateFlow_eq_none :
    duplicateFlow v i id = none ↔ ∀ j : FlowIndex, j ≠ i → v[j].valid = true → v[j].terms.flowId ≠ id := by
  simp only [duplicateFlow, List.find?_eq_none, List.mem_finRange, true_implies, Bool.and_eq_true, beq_iff_eq,
    not_and, ne_eq, bne_iff_ne]
  exact ⟨fun h j a b => h j ⟨a, b⟩, fun h j ⟨a, b⟩ => h j a b⟩

/-- R87: what the duplicate test finds is another valid record that carries the flow ID. -/
theorem duplicateFlow_other (h : duplicateFlow v i id = some j) :
    j ≠ i ∧ v[j].valid = true ∧ v[j].terms.flowId = id := by
  have := List.find?_some h
  simp only [Bool.and_eq_true, beq_iff_eq, bne_iff_ne] at this
  exact ⟨this.1.1, this.1.2, this.2⟩

/-- R77, R78: an update of one record keeps the laws when a record it leaves valid is sound and takes no other's ID. -/
theorem FlowLaws.updateAt {f : FlowRecord → FlowRecord} (h : FlowLaws v)
    (hid : (f v[i]).valid = true → (f v[i]).terms.flowId ≠ 0#12 ∧ (f v[i]).terms.flowId ≠ 4095#12)
    (hne : (f v[i]).valid = true → ∀ j : FlowIndex, j ≠ i → v[j].valid = true →
      v[j].terms.flowId ≠ (f v[i]).terms.flowId)
    (hgap : (f v[i]).valid = true → (f v[i]).terms.joinGap ≠ 0#8) : FlowLaws (updateAt v i f) := by
  have key : ∀ j : FlowIndex, (j = i ∧ (Machine.updateAt v i f)[j] = f v[i]) ∨
      (j ≠ i ∧ (Machine.updateAt v i f)[j] = v[j]) := fun j => by
    by_cases hj : j = i
    · subst hj; exact .inl ⟨rfl, getElem_updateAt_self v j f⟩
    · exact .inr ⟨hj, getElem_updateAt_ne v (fun e => hj e.symm) f⟩
  refine ⟨fun j hv => ?_, fun j k hj hk he => ?_, fun j hv => ?_⟩
  · rcases key j with ⟨-, e⟩ | ⟨-, e⟩ <;> rw [e] at hv ⊢
    · exact hid hv
    · exact h.ids j hv
  · rcases key j with ⟨a, e⟩ | ⟨a, e⟩ <;> rcases key k with ⟨b, g⟩ | ⟨b, g⟩ <;> rw [e] at hj he <;> rw [g] at hk he
    · exact a.trans b.symm
    · exact absurd he.symm (hne hj k b hk)
    · exact absurd he (hne hk j a hj)
    · exact h.unique j k hj hk he
  · rcases key j with ⟨-, e⟩ | ⟨-, e⟩ <;> rw [e] at hv ⊢
    · exact hgap hv
    · exact h.gaps j hv

/-- R80: the classifier passes over the offers that stand ahead of the oldest unclassified cell. -/
@[simp] theorem firstUnclassified_offers (before : List Offer) (rest : List HandOff) :
    firstUnclassified (before.map .offer ++ rest) = firstUnclassified rest := by
  induction before with
  | nil => rfl
  | cons o before ih => exact ih

/-- R63: the offers ahead of a cell stay where they are while it is classified. -/
@[simp] theorem settleFirst_offers (result : Option Offer) (before : List Offer) (rest : List HandOff) :
    settleFirst result (before.map .offer ++ rest) = before.map .offer ++ settleFirst result rest := by
  induction before with
  | nil => rfl
  | cons o before ih => exact congrArg (HandOff.offer o :: ·) ih

end Sys2Proof.Machine
end

