-- ==== Sys2Proof/Laws/Cases.lean ====
section
/-! SUPPORT. For each shared operation that has cases, one lemma that says all it can do, so that a proof splits on it
without unfolding it. -/

namespace Sys2Proof.Machine

variable (s : State)

/-- R162: a posting is masked, lost to a full queue, or appended. -/
theorem State.post_cases (body : NoticeBody) :
    (s.nu.mask.getLsbD body.kindCode = false ∧ s.post body = s) ∨
    (s.nu.mask.getLsbD body.kindCode = true ∧ 16 ≤ s.nu.queue.length ∧
      s.post body = s.setNu { s.nu with lost := true }) ∨
    (s.nu.mask.getLsbD body.kindCode = true ∧ s.nu.queue.length < 16 ∧
      s.post body =
        s.setNu { s.nu with queue := s.nu.queue ++ [s.formNotice body], lost := false, seq := s.nu.seq + 1#8 }) := by
  unfold State.post
  cases hm : s.nu.mask.getLsbD body.kindCode
  · exact .inl ⟨rfl, rfl⟩
  · by_cases hl : 16 ≤ s.nu.queue.length
    · exact .inr (.inl ⟨rfl, hl, by simp [hl]⟩)
    · exact .inr (.inr ⟨rfl, by omega, by simp [hl]⟩)

/-- R162: a posting does not reach what is handed over and not yet taken. -/
@[simp] theorem State.post_handed (body : NoticeBody) : (s.post body).nu.handed = s.nu.handed := by
  rcases s.post_cases body with ⟨-, h⟩ | ⟨-, -, h⟩ | ⟨-, -, h⟩ <;> rw [h] <;> rfl

/-- R162, R167: a posting that waits is posted and waits no longer; with none waiting nothing changes. -/
theorem State.takeHanded_cases :
    (∃ body, s.nu.handed = some body ∧ s.takeHanded = (s.handOver none).post body) ∨
    (s.nu.handed = none ∧ s.takeHanded = s) := by
  unfold State.takeHanded
  cases h : s.nu.handed with
  | some body => exact .inl ⟨body, rfl, rfl⟩
  | none => exact .inr ⟨rfl, rfl⟩

/-- R167: after the notice unit has taken it, no posting waits. -/
@[simp] theorem State.takeHanded_handed : s.takeHanded.nu.handed = none := by
  rcases s.takeHanded_cases with ⟨body, -, h⟩ | ⟨h, e⟩
  · rw [h]; simp
  · rw [e, h]

/-- R126: a reception is counted under its failed check, taken as good, or not taken while the trunk is DOWN. -/
theorem Trunk.receive_cases (t : Trunk) (bytes : List Byte) :
    (t.takes bytes = false ∧ t.receive bytes = t) ∨
    (∃ check, judge trunkAccepts bytes = .bad check ∧ t.receive bytes = t.countBad check) ∨
    (∃ c, judge trunkAccepts bytes = .good c ∧ t.receive bytes = t.takeGood c) := by
  unfold Trunk.receive
  cases h : t.takes bytes with
  | false => exact .inl ⟨rfl, by simp⟩
  | true =>
    cases hj : judge trunkAccepts bytes with
    | bad check => exact .inr (.inl ⟨check, rfl, by simp⟩)
    | good c => exact .inr (.inr ⟨c, rfl, by simp⟩)

/-- R114, R121: entry to DISABLED or WAITING flushes the port; entry to ACTIVE or QUARANTINED changes the state alone. -/
theorem Port.enter_cases (pt : Port) (new : PortState) :
    ((new = .disabled ∨ new = .waiting) ∧
      pt.enter new = { pt with
        state := new, streak := 0#8, egress := [], tx := pt.tx.cutShort
        counters := { pt.counters with flushed := satAdd pt.counters.flushed pt.egress.length } }) ∨
    ((new = .active ∨ new = .quarantined) ∧ pt.enter new = { pt with state := new }) := by
  cases new
  · exact .inl ⟨.inl rfl, rfl⟩
  · exact .inl ⟨.inr rfl, rfl⟩
  · exact .inr ⟨.inl rfl, rfl⟩
  · exact .inr ⟨.inr rfl, rfl⟩

/-- R119: an offered downstream cell is appended or counted as dropped. -/
theorem Port.offerEgress_cases (pt : Port) (c : Cell) :
    ((pt.state = .active ∨ pt.state = .quarantined) ∧ pt.egress.length < 32 ∧
      pt.offerEgress c = { pt with egress := pt.egress ++ [c] }) ∨
    (¬ ((pt.state = .active ∨ pt.state = .quarantined) ∧ pt.egress.length < 32) ∧
      pt.offerEgress c =
        { pt with counters := { pt.counters with egressDropped := satAdd pt.counters.egressDropped 1 } }) := by
  have h : pt.takesEgress = true ↔ (pt.state = .active ∨ pt.state = .quarantined) ∧ pt.egress.length < 32 := by
    simp only [Port.takesEgress, Bool.and_eq_true, Bool.or_eq_true, beq_iff_eq]
    exact and_congr Iff.rfl decide_eq_true_iff
  by_cases ht : pt.takesEgress = true
  · exact .inl ⟨(h.mp ht).1, (h.mp ht).2, by simp only [Port.offerEgress, ht, if_true]⟩
  · exact .inr ⟨fun x => ht (h.mpr x), by simp only [Port.offerEgress, ht]; rfl⟩

/-- R22 to R24: at a counted slot the scheduler stays HALTED, begins its plan, takes a boundary or moves on by one. -/
theorem Sched.advance_cases (c : Sched) :
    (c.state = .halted ∧ c.advance = (c, none)) ∨
    (c.state ≠ .halted ∧ c.startPending = true ∧
      c.advance = ({ c with startPending := false, position := 0 }, none)) ∨
    (c.boundaryDue = true ∧ c.state ≠ .halted ∧ c.startPending = false ∧ c.advance = c.boundary) ∨
    (c.boundaryDue = false ∧ c.state ≠ .halted ∧ c.startPending = false ∧
      c.advance = ({ c with position := c.position + 1 }, none)) := by
  unfold Sched.advance
  by_cases h1 : c.state = .halted
  · exact .inl ⟨h1, by simp [h1]⟩
  · cases h2 : c.startPending
    · cases h3 : c.boundaryDue
      · exact .inr (.inr (.inr ⟨rfl, h1, rfl, by simp [h1]⟩))
      · exact .inr (.inr (.inl ⟨rfl, h1, rfl, by simp [h1]⟩))
    · exact .inr (.inl ⟨h1, rfl, by simp [h1]⟩)

/-- R25, R27: the five cases of the boundary, each with its notice. -/
theorem Sched.boundary_cases (c : Sched) (h : c.state ≠ .halted) :
    (c.state = .stopping ∧ c.boundary =
      (c.haltingBoundary, some (.schedHalted c.cycle (c.bankIn .armed).isSome c.stopFromExcursion))) ∨
    (c.state = .excursion ∧ (c.endRequested = true ∨ c.excursionLeft = 0#8) ∧ c.boundary =
      (c.restoringBoundary, (c.bankIn .held).map (fun restored =>
        .excursionDone restored (if c.endRequested then .requested else .count)))) ∨
    (c.state = .excursion ∧ c.endRequested = false ∧ c.excursionLeft ≠ 0#8 ∧
      c.boundary = (c.excursionBoundary, none)) ∨
    (∃ armed, c.state = .running ∧ c.bankIn .armed = some armed ∧
      c.boundary = (c.swapBoundary armed, some (.planSwapped armed c.commitMode (c.cycle + 1#32)))) ∨
    (c.state = .running ∧ c.bankIn .armed = none ∧ c.boundary = (c.plainBoundary, none)) := by
  unfold Sched.boundary
  rcases hs : c.state with _ | _ | _ | _
  · exact absurd hs h
  · cases ha : c.bankIn .armed with
    | none => exact .inr (.inr (.inr (.inr ⟨rfl, rfl, rfl⟩)))
    | some armed => exact .inr (.inr (.inr (.inl ⟨armed, rfl, rfl, rfl⟩)))
  · by_cases he : c.endRequested = true ∨ c.excursionLeft = 0#8
    · exact .inr (.inl ⟨rfl, he, by simp [he]⟩)
    · have h1 : c.endRequested = false := by simpa using fun x => he (.inl x)
      have h2 : c.excursionLeft ≠ 0#8 := fun x => he (.inr x)
      exact .inr (.inr (.inl ⟨rfl, h1, h2, by simp [h1, h2]⟩))
  · exact .inl ⟨rfl, rfl⟩

/-- R44 to R46: a slot is served from its window, or as a free slot. -/
theorem State.serve_cases (kind : SlotKind) :
    (∃ src, s.windowSource kind = some src ∧ s.serve kind = s.send src) ∨
    (s.windowSource kind = none ∧ s.serve kind = s.serveFree) := by
  unfold State.serve
  cases h : s.windowSource kind with
  | none => exact .inr ⟨rfl, rfl⟩
  | some src => exact .inl ⟨src, rfl, rfl⟩

/-- R42: the chosen source gives up its item, which is transmitted. -/
theorem State.send_cases (src : Source) :
    (∃ k d ds, src = .head k ∧ s.qm.classes[k].queue = d :: ds ∧
      s.send src = (s.setQm (s.qm.dequeue k)).transmit (s.qm.buffer[d.index].withFlag d.demoted)) ∨
    (∃ r rest, src = .response ∧ s.me.responses = r :: rest ∧
      s.send src = (s.setMe (s.me.afterSending r rest)).transmit r.cell) ∨
    (∃ n rest, src = .notice ∧ s.nu.queue = n :: rest ∧
      s.send src = (s.setNu { s.nu with queue := rest }).transmit n.cell) ∨
    s.send src = s.transmit Cell.idle := by
  cases src with
  | head k =>
    cases hq : s.qm.classes[k].queue with
    | nil => exact .inr (.inr (.inr (by simp only [State.send, QueueManager.headCell, hq]; rfl)))
    | cons d ds => exact .inl ⟨k, d, ds, rfl, hq, by simp only [State.send, QueueManager.headCell, hq]; rfl⟩
  | response =>
    cases hr : s.me.responses with
    | nil => exact .inr (.inr (.inr (by simp [State.send, hr])))
    | cons r rest => exact .inr (.inl ⟨r, rest, rfl, rfl, by simp [State.send, hr]⟩)
  | notice =>
    cases hn : s.nu.queue with
    | nil => exact .inr (.inr (.inr (by simp [State.send, hn])))
    | cons n rest => exact .inr (.inr (.inl ⟨n, rest, rfl, rfl, by simp [State.send, hn]⟩))
  | idle => exact .inr (.inr (.inr rfl))

/-- R80 to R84: a data cell is unknown, misrouted, or measured and policed. -/
theorem State.classify_cases (p : PortId) (c : BufCell) (t : Word32) :
    ((∀ i, lookupFlow s.flows c.flowId = some i → s.flows[i].terms.upstream = false) ∧
      s.classify p c t = s.unknownFlow p c) ∨
    (∃ i, lookupFlow s.flows c.flowId = some i ∧ s.flows[i].terms.upstream = true ∧
      s.flows[i].terms.sourcePort ≠ p ∧ s.classify p c t = s.misroute p) ∨
    (∃ i, lookupFlow s.flows c.flowId = some i ∧ s.flows[i].terms.upstream = true ∧
      s.flows[i].terms.sourcePort = p ∧ s.classify p c t = s.measureFlow i c t) := by
  unfold State.classify
  cases h : lookupFlow s.flows c.flowId with
  | none => exact .inl ⟨fun i hi => (by simp at hi), rfl⟩
  | some i =>
    cases hu : s.flows[i].terms.upstream
    · exact .inl ⟨fun j hj => (by simp only [Option.some.injEq] at hj; exact hj ▸ hu), by simp only [hu]; rfl⟩
    · by_cases hp : s.flows[i].terms.sourcePort = p
      · exact .inr (.inr ⟨i, rfl, hu, hp, by simp only [hu]; exact if_neg (not_not_intro hp)⟩)
      · exact .inr (.inl ⟨i, rfl, hu, hp, by simp only [hu]; exact if_pos hp⟩)

/-- R64, R65: an offer is stored, or dropped and counted. -/
theorem State.takeOffer_cases (o : Offer) :
    (s.qm.admits o = true ∧ s.takeOffer o = s.setQm (s.qm.store o)) ∨
    (s.qm.admits o = false ∧ s.takeOffer o = (s.setQm (s.qm.countDrop o)).countFlowDrop o) := by
  unfold State.takeOffer QueueManager.take
  cases h : s.qm.admits o
  · exact .inr ⟨rfl, rfl⟩
  · exact .inl ⟨rfl, rfl⟩

end Sys2Proof.Machine
end

