-- ==== Sys2Proof/Tests/Slice0.lean ====
section
/-! SUPPORT. Tests of the model against the manual's worked examples, the smoke tests of WellFormed, and for every
statement with hypotheses a witness: a concrete state and operands that meet them, one for each clause, at the boundary
of its range. -/

namespace Sys2Proof.Tests

open Sys2Proof.Machine Sys2Proof.Claims

set_option Elab.async false

/-! ### Small states -/

/-- The state a row leaves; every row answers one. -/
def after (i : Instr) (s : State) : State :=
  match exec i s with
  | .next t => t
  | .fault _ => s
  | .refused _ => s

/-- A command with the sequence number 7. -/
def cmd (code : Byte) (params : List Byte) : Command :=
  { payload := Payload.ofBytes ([0#8, 7#8, code] ++ params), len := BitVec.ofNat 8 (3 + params.length) }

/-- The part with commands waiting. -/
def holding (s : State) (cs : List Command) : State :=
  { s with me := { s.me with commands := cs } }

/-- The part after reset with one command waiting. -/
def asked (code : Byte) (params : List Byte) : State :=
  holding State.reset [cmd code params]

/-- The data bytes of the newest response. -/
def answered (s : State) : Option (Status × Byte × List Byte) :=
  s.me.responses.getLast?.map (fun r => (r.status, r.detail, r.data))

/-- The entries of the plan of section 1.3. -/
def planP : List WindowEntry :=
  [{ span := 8#16, openLen := 4#16, owner := 0#8, alignment := 0#8, reclaim := false },
    { span := 6#16, openLen := 2#16, owner := 8#8, alignment := 2#8, reclaim := false },
    { span := 10#16, openLen := 5#16, owner := 2#8, alignment := 1#8, reclaim := true }]

/-- A plan of 32 free slots. -/
def planQ : List WindowEntry :=
  [{ span := 32#16, openLen := 0#16, owner := 0#8, alignment := 0#8, reclaim := false }]

/-- A bank that holds a plan. -/
def bankOf (es : List WindowEntry) (st : BankState) : Bank :=
  { entries := Vector.ofFn (fun i : Fin 64 => es.getD i.val WindowEntry.reset), count := es.length, state := st }

/-- A scheduler whose active bank A holds the plan of section 1.3 and whose bank B holds 32 free slots. -/
def sched (st : SchedState) (b : BankState) (position : Nat) : Sched :=
  { Sched.reset with
    state := st, active := some .a, position := position, cycle := 5#32, slotClock := 1192#32
    bankA := bankOf planP .active, bankB := bankOf planQ b }

/-- The part with a scheduler. -/
def under (c : Sched) : State :=
  State.reset.setSched c

/-- The part with commands waiting under a scheduler. -/
def askedUnder (c : Sched) (code : Byte) (params : List Byte) : State :=
  holding (under c) [cmd code params]

/-- The part with station port 1 changed. -/
def atPort (f : Port → Port) : State :=
  State.reset.updPort 1 f

/-- A port in service. -/
def inState (st : PortState) (signal relay : Bool) (pt : Port) : Port :=
  { pt with state := st, enable := true, signal := signal, relay := relay }

/-- The part with station port 1 in service. -/
def port1 (st : PortState) (signal relay : Bool) : State :=
  atPort (inState st signal relay)

/-- The record of the worked example of Chapter 6, freshly written. -/
def record9 : FlowRecord :=
  { valid := true
    terms :=
      { flowId := 310#12, upstream := true, sourcePort := 1, cls := 1, action := .demote, demoteClass := 5,
        joinGap := 1#8, burstLimit := 3#16, minGap := 10#24, notifyEnable := true, mask := 0b1010#4 }
    meas := { Measurement.reset with armed := true } }

/-- The flow table with one record, at index 9. -/
def table (r : FlowRecord) : Vector FlowRecord 256 :=
  updateAt (Vector.replicate 256 FlowRecord.reset) 9 (fun _ => r)

/-- The part with that table. -/
def withRecord (s : State) (r : FlowRecord) : State :=
  s.setFlows (table r)

/-- A buffered cell of flow 310. -/
def cell310 : BufCell :=
  { kind := .data, flowId := 310#12, len := 52#8, payload := Payload.zero }

/-- A cell of a kind, with the shortest or the longest payload. -/
def cellOf (k : Kind) (flowId : BitVec 12) (len : Byte) (first : Byte) : Cell :=
  { kind := k, flowId := flowId, demoted := false, len := len, payload := Payload.ofBytes [first] }

/-- The part with one cell handed to the forwarder. -/
def toForward (s : State) (c : Cell) : State :=
  s.setTrunk { s.trunk with handoff := [c] }

/-- The part with its trunk signal UP. -/
def trunkUp : State :=
  after (.trunkSignalChange true) State.reset

/-- 64 bytes with good checks over any header. -/
def sealedBytes (header : List Byte) : List Byte :=
  let checked := header ++ [headerCheck header] ++ List.replicate 52 0#8
  checked ++ be32 (cellCheck checked)

/-- The queue manager with one cell, buffer index 0, in a class whose parameters `f` sets. -/
def queued1 (k : ClassId) (f : ClassQueue → ClassQueue) : QueueManager :=
  { QueueManager.reset with
    free := (List.finRange 512).tail
    classes := updateAt QueueManager.reset.classes k
      (fun c => f { c with queue := [{ index := 0, flow := some 9, demoted := true }] }) }

/-! ### WellFormed -/

theorem test_no_reception_of_nothing :
    Instr.wellFormed (.stationCellReceive 0 []) = false ∧ Instr.wellFormed (.trunkCellReceive []) = false := by
  decide

theorem test_no_reception_of_65_bytes :
    Instr.wellFormed (.stationCellReceive 3 (List.replicate 65 0#8)) = false ∧
      Instr.wellFormed (.trunkCellReceive (List.replicate 65 0#8)) = false := by
  decide

theorem test_receptions_of_1_and_64_bytes :
    Instr.wellFormed (.stationCellReceive 3 [0#8]) = true ∧
      Instr.wellFormed (.trunkCellReceive (List.replicate 64 0#8)) = true := by
  decide

/-! ### The step and the resets -/

/-- The table gives no row any bits. -/
theorem test_no_word_spells_a_row : decodeTableWord 8 1 = none ∧ State.reset.withFetchWord 8 1 = State.reset := by
  exact ⟨rfl, rfl⟩

/-- R173: the first slot, slot clock 1, carries RESET_DONE. -/
theorem test_first_slot_carries_reset_done :
    (after .slotStart State.reset).sched.slotClock = 1#32 ∧ (after .slotStart State.reset).nu.queue = [] ∧
      (after .slotStart State.reset).trunk.transmitted = 1#32 := by
  decide +kernel

/-- R140: strap values 62 and 63. -/
theorem test_strap_62_and_63 :
    (after (.powerOnResetEnd 62#6 true) (after .powerOnReset State.reset)).me.nodeAddr = 62#8 ∧
      (after (.powerOnResetEnd 63#6 true) (after .powerOnReset State.reset)).me.nodeAddr = 0#8 := by
  decide +kernel

/-- R171: 10 µs is long enough, and the cause is PIN. -/
theorem test_pin_reset_cause :
    (after (.pinReset 9999) State.reset).phase = .running ∧ (after (.pinReset 10000) State.reset).phase = .pinReset ∧
      (after (.pinResetEnd 3#6 false) (after (.pinReset 10000) State.reset)).me.cause = .pin := by
  decide +kernel

/-- R171: a pin held low past the 2 ms prolongs a power-on reset, and its release ends it with the cause POWER_ON. -/
theorem test_held_pin_prolongs_power_on :
    let s := after (.powerOnResetEnd 3#6 true) (after (.pinReset 10000) (after .powerOnReset State.reset))
    s.phase = .powerOnHeld ∧ (after (.pinResetEnd 3#6 true) s).phase = .running ∧
      (after (.pinResetEnd 3#6 true) s).me.cause = .powerOn := by
  decide +kernel

/-- R156: a management reset sets the cause and keeps the node address. -/
theorem test_management_reset_cause :
    let s := { State.reset with me := { State.reset.me with nodeAddr := 5#8, straps := 5#6, run := .resetSent } }
    (after .managementReset s).me.cause = .management ∧ (after .managementReset s).me.nodeAddr = 5#8 := by
  decide +kernel

/-! ### Chapters 1 to 3 -/

/-- R2: span 7, open length 2, CENTRED has offset 2. -/
theorem test_centred_offset :
    ({ span := 7#16, openLen := 2#16, owner := 1#8, alignment := 2#8, reclaim := false } : WindowEntry).offset = 2 := by
  decide

/-- Section 1.3: the slot map of the 24-slot plan. -/
theorem test_slot_map :
    (List.range 24).map (slotKindAt planP) =
      List.replicate 4 (.classWindow 0 false) ++ List.replicate 6 .free ++
        List.replicate 2 (.managementWindow false) ++ List.replicate 7 .free ++
        List.replicate 5 (.classWindow 2 true) := by
  decide +kernel

/-- Section 1.4, validation outcomes: accepted, count 0, count raised to 4, and owner 9. -/
theorem test_validation_outcomes_1 :
    (bankOf planP .free).planFault = none ∧
    ({ bankOf planP .free with count := 0 }).planFault = some (.planEmpty, 255) ∧
    ({ bankOf planP .free with count := 4 }).planFault = some (.spanRange, 3) ∧
    (bankOf (planP.set 1 { planP[1] with owner := 9#8 }) .free).planFault = some (.ownerRange, 1) := by
  decide +kernel

/-- Section 1.4, validation outcomes: open length 9 with alignment 7, a cycle of 6, and no free slot at all. -/
theorem test_validation_outcomes_2 :
    (bankOf (planP.set 0 { planP[0] with openLen := 9#16, alignment := 7#8 }) .free).planFault =
      some (.openExceedsSpan, 0) ∧
    (bankOf (planP.map (fun e => { e with span := 2#16, openLen := 1#16 })) .free).planFault =
      some (.cycleRange, 255) ∧
    (bankOf ((planP.map (fun e => { e with openLen := e.span })).set 1
      { planP[1] with openLen := 6#16, owner := 1#8 }) .free).planFault = some (.noManagementSlot, 255) ∧
    (bankOf (planP.map (fun e => { e with openLen := e.span })) .free).planFault = none := by
  decide +kernel

/-- Chapter 2, worked timeline, event 4: the swap into an excursion of N = 2, stamped with the new slot. -/
theorem test_swap_boundary :
    let c := { sched .running .armed 23 with commit := some { mode := .excursion, repeatN := 2#8 } }
    let t := after .cycleBoundary (under c)
    t.sched.state = .excursion ∧ t.sched.bankA.state = .held ∧ t.sched.bankB.state = .active ∧
      t.sched.active = some .b ∧ t.sched.cycle = 6#32 ∧ t.sched.excursionLeft = 2#8 ∧
      t.nu.queue.map (fun n => (n.stamp, n.body)) = [(1193#32, .planSwapped .b .excursion 6#32)] := by
  decide +kernel

/-- Chapter 2, worked timeline, event 12: the halting boundary abandons the commit and keeps the cycle number. -/
theorem test_halting_boundary :
    let c := { sched .stopping .armed 23 with commit := some { mode := .permanent, repeatN := 0#8 } }
    let t := after .cycleBoundary (under c)
    t.sched.state = .halted ∧ t.sched.bankA.state = .free ∧ t.sched.bankB.state = .free ∧ t.sched.cycle = 5#32 ∧
      t.nu.queue.map (fun n => n.body) = [.schedHalted 5#32 true false] := by
  decide +kernel

/-- R167: the SCHED_HALTED of a boundary and a PORT_STATE of the same slot come in either order, under one stamp. -/
theorem test_boundary_notices_in_either_order :
    let s := { under (sched .stopping .free 23) with
      ports := (port1 .active true false).ports, nu := { State.reset.nu with queue := [] } }
    let bodies (t : State) : List (Word32 × BitVec 3) :=
      t.nu.queue.map (fun n => (n.stamp, BitVec.ofNat 3 n.body.kindCode))
    bodies (after (.stationSignalLost 1) (after .cycleBoundary (after .slotStart s))) =
        [(1193#32, 3#3), (1193#32, 5#3)] ∧
      bodies (after .cycleBoundary (after (.stationSignalLost 1) (after .slotStart s))) =
        [(1193#32, 5#3), (1193#32, 3#3)] := by
  decide +kernel

/-- Chapter 3, two classes and aging: at free slot 3 the promoted class 4 wins and class 3 ages. -/
theorem test_promoted_class_wins :
    let q := { queued1 3 (fun c => { c with priority := 5, agingLimit := 3#8 }) with
      classes := updateAt (queued1 3 (fun c => { c with priority := 5, agingLimit := 3#8 })).classes 4
        (fun c => { c with
          queue := [{ index := 1, flow := none, demoted := false }, { index := 2, flow := none, demoted := false }]
          priority := 2, agingLimit := 2#8, age := 2#8 }) }
    q.winner = some 4 ∧ (q.ageFree (some 4)).classes[3].age = 1#8 ∧ (q.ageFree (some 4)).classes[4].age = 0#8 := by
  decide +kernel

/-! ### Chapters 4 to 6 -/

/-- Chapter 4, oversubscribed buffer, step 5: room under the limit but no free cell. -/
theorem test_buffer_drop :
    let o : Offer := { cell := cell310, target := .relay, flow := none, demoted := false }
    let s := (port1 .active true true).updPort 1 (fun pt => { pt with handoff := [.offer o] })
    let t := after (.cellAdmission 1) (s.setQm { s.qm with free := [], relayClass := 7 })
    t.qm.classes[7].dropped = 1#32 ∧ t.qm.classes[7].queue = [] ∧ t.ports[1].handoff = [] := by
  decide +kernel

/-- Chapter 6, six arrivals: the arrival at 103 is non-conforming with BURST and value 4, demoted and reported. -/
theorem test_arrival_at_103 :
    let r := { record9 with meas :=
      { record9.meas with seen := true, lastArrival := 102#32, currentBurst := 3#16, conforming := 3#32 } }
    let s := withRecord ((port1 .active true false).updPort 1
      (fun pt => { pt with handoff := [.classify cell310 103#32] })) r
    let t := after (.upstreamClassification 1) s
    t.flows[9].meas.nonConforming = 1#32 ∧ t.flows[9].meas.armed = false ∧
      t.nu.queue.map (fun n => n.body) =
        [.resetDone .powerOn, .flowViolation 9 310#12 .burst 4#32] ∧
      t.ports[1].handoff = [.offer { cell := cell310, target := .named 5, flow := some 9, demoted := true }] := by
  decide +kernel

/-- Chapter 6, six arrivals: the arrival at 109 completes a burst of 4 and is non-conforming with GAP and value 6. -/
theorem test_arrival_at_109 :
    let r := { record9 with meas :=
      { record9.meas with seen := true, lastArrival := 103#32, currentBurst := 4#16, conforming := 3#32 } }
    r.verdict 109#32 = .nonConforming .gap 6#32 ∧
      (r.measured 109#32).lastBurst = 4#16 ∧ (r.measured 109#32).largestBurst = 4#16 ∧
      (r.measured 109#32).lastGap = 6#24 ∧ (r.measured 109#32).smallestGap = 6#24 := by
  decide +kernel

/-- R105: a last arrival of 4 294 967 290 and an arrival at slot clock 3 lie 9 slots apart. -/
theorem test_slot_clock_wrap : ({ record9.meas with lastArrival := 4294967290#32 }).since 3#32 = 9#32 := by
  decide +kernel

/-! ### Chapters 7 and 8 -/

/-- The published check value of this header polynomial over the bytes of the text 123456789 (from outside the manual,
log entry 20). -/
theorem test_header_check_value :
    headerCheck [0x31#8, 0x32#8, 0x33#8, 0x34#8, 0x35#8, 0x36#8, 0x37#8, 0x38#8, 0x39#8] = 0xF4#8 := by
  decide +kernel

/-- The same for the cell check. -/
theorem test_cell_check_value :
    cellCheck [0x31#8, 0x32#8, 0x33#8, 0x34#8, 0x35#8, 0x36#8, 0x37#8, 0x38#8, 0x39#8] = 0xFC891918#32 := by
  decide +kernel

/-- R158: bit 7 of byte 1 is the demoted flag, and the flow ID lies in bits 3 to 0 of byte 1 and in byte 2. -/
theorem test_header_bytes :
    ({ cellOf .data 0xABC#12 52#8 9#8 with demoted := true }).headerBytes =
      [1#8, 0x8A#8, 0xBC#8, 52#8, 0#8, 0#8, 0#8] := by
  decide

/-- R116: the eighth bad cell in a row quarantines a port with the reset threshold. -/
theorem test_eighth_bad_cell_quarantines :
    let s := atPort (fun pt => { inState .active true false pt with streak := 7#8 })
    (after (.stationCellReceive 1 [1#8]) s).ports[1].state = .quarantined ∧
      (after (.stationCellReceive 1 [1#8]) s).ports[1].counters.headerErrors = 1#32 := by
  decide +kernel

/-- R111: a RESPONSE on a station port whose relay bit is clear fails the kind check. -/
theorem test_response_without_relay_bit :
    (after (.stationCellReceive 1 (cellOf .response 4095#12 10#8 1#8).wire)
      (port1 .active true false)).ports[1].counters.kindErrors = 1#32 := by
  decide +kernel

/-- R115, R121: a loss of signal flushes the FIFO of an ACTIVE port. -/
theorem test_signal_lost_flushes :
    let s := atPort (fun pt => { inState .active true false pt with egress := [cellOf .data 1#12 1#8 1#8] })
    (after (.stationSignalLost 1) s).ports[1].state = .waiting ∧
      (after (.stationSignalLost 1) s).ports[1].egress = [] ∧
      (after (.stationSignalLost 1) s).ports[1].counters.flushed = 1#32 := by
  decide +kernel

/-- R114: signal gained makes a WAITING port ACTIVE. -/
theorem test_signal_gained :
    (after (.stationSignalGained 1) (port1 .waiting false false)).ports[1].state = .active := by
  decide +kernel

/-- R120: a DISABLED port transmits nothing, and an idle cell is not counted. -/
theorem test_station_transmit :
    (after (.stationTransmit 1) State.reset).ports[1].tx = .silent ∧
      (after (.stationTransmit 1) (port1 .waiting false false)).ports[1].counters.egressTransmitted = 0#32 := by
  decide +kernel

/-- R127: a change to DOWN is counted and posted; a signal that stands as it was is not. -/
theorem test_trunk_signal :
    let s := State.reset.setTrunk { State.reset.trunk with signal := true }
    (after (.trunkSignalChange false) s).trunk.signalLosses = 1#32 ∧
      (after (.trunkSignalChange false) s).nu.queue.length = 2 ∧
      (after (.trunkSignalChange true) s).nu.queue.length = 1 := by
  decide +kernel

/-- R126: while UP a good cell is counted and handed on; while DOWN it is not, and a cut piece is counted as bad. -/
theorem test_trunk_receive :
    let wire := (cellOf .notice 4095#12 9#8 1#8).wire
    (after (.trunkCellReceive wire) trunkUp).trunk.received = 1#32 ∧
      (after (.trunkCellReceive wire) State.reset).trunk.received = 0#32 ∧
      (after (.trunkCellReceive wire) State.reset).trunk.handoff = [] ∧
      (after (.trunkCellReceive [1#8]) State.reset).trunk.headerErrors = 1#32 := by
  decide +kernel

/-- Chapter 8, cell 3: a command to node 5 is offered to SP1, which appends it, and to SP3, which drops it. -/
theorem test_command_relay :
    let s := ((port1 .active true true).updPort 3 (inState .waiting false true))
    let t := after .downstreamForward (toForward s (cellOf .command 4095#12 3#8 5#8))
    t.ports[1].egress.length = 1 ∧ t.ports[3].counters.egressDropped = 1#32 ∧ t.ports[0].egress = [] ∧
      t.df.commandsRelayed = 1#32 := by
  decide +kernel

/-- Chapter 8, cell 4: data of a flow whose mask names ports 1 and 3. -/
theorem test_data_delivery :
    let s := withRecord ((port1 .active true false).updPort 3 (inState .waiting false true)) record9
    let t := after .downstreamForward (toForward s (cellOf .data 310#12 1#8 5#8))
    t.ports[1].egress.length = 1 ∧ t.ports[3].counters.egressDropped = 1#32 ∧ t.df.dataForwarded = 1#32 := by
  decide +kernel

/-! ### Chapters 9 and 10: the commands -/

/-- R146: a short command is answered with detail 255 and its absent bytes as 0. -/
theorem test_short_command :
    let t := after .badCommand (holding State.reset [{ cmd 0#8 [] with len := 2#8 }])
    answered t = some (.badCommand, 255#8, []) ∧ t.me.responses.map (fun r => (r.seq, r.code)) = [(7#8, 0#8)] ∧
      t.me.cache = none := by
  decide +kernel

/-- R147: an unknown code. -/
theorem test_unknown_code : answered (after .badCommand (asked 0x04#8 [])) = some (.badCommand, 0#8, []) := by
  decide +kernel

/-- R150: a CLASS_FLUSH that repeats the last sequence number is replayed. -/
theorem test_replay :
    let t := after .classFlush (holding State.reset [cmd 0x32#8 [6#8], cmd 0x32#8 [6#8]])
    (after .classFlush t).me.responses.map (fun r => (r.seq, r.replayed)) = [(7#8, false), (7#8, true)] := by
  decide +kernel

/-- R153: ECHO returns its bytes, and 41 of them are refused at offset 40. -/
theorem test_echo :
    answered (after .echo (asked 0x01#8 [9#8, 8#8])) = some (.ok, 0#8, [9#8, 8#8]) ∧
      answered (after .echo (asked 0x01#8 (List.replicate 41 0#8))) = some (.badParam, 40#8, []) := by
  decide +kernel

/-- R160: IDENTIFY returns 20 bytes, with 512 buffer cells and 256 records at offsets 10 to 13. -/
theorem test_identify :
    (answered (after .identify (asked 0x02#8 []))).map (fun a => (a.2.2.length, (a.2.2.drop 8).take 6)) =
      some (20, [4#8, 8#8, 2#8, 0#8, 1#8, 0#8]) := by
  decide +kernel

/-- R160: STATUS returns 22 bytes; after reset no bank is active, armed or held and the free buffer count is 512. -/
theorem test_status :
    (answered (after .status (asked 0x03#8 [0#8]))).map
      (fun a => (a.2.2.length, a.2.2.take 4, (a.2.2.drop 17).take 2)) =
      some (22, [0#8, 255#8, 255#8, 255#8], [2#8, 0#8]) := by
  decide +kernel

/-- R147: PLAN_WRITE with bank code 2 is refused at offset 0; R14: a count of 2 from index 63 at offset 2. -/
theorem test_plan_write_refusals :
    answered (after .planWrite (asked 0x10#8 [2#8, 0#8, 1#8])) = some (.badParam, 0#8, []) ∧
      answered (after .planWrite (asked 0x10#8 [0#8, 63#8, 2#8])) = some (.badParam, 2#8, []) := by
  decide +kernel

/-- R159: PLAN_WRITE stores an entry as sent at index 63, any reclaim byte but 0 as set. -/
theorem test_plan_write_entry :
    (after .planWrite (asked 0x10#8 [1#8, 63#8, 1#8, 1#8, 2#8, 3#8, 4#8, 9#8, 7#8, 5#8])).sched.bankB.entries[63] =
      { span := 0x0102#16, openLen := 0x0304#16, owner := 9#8, alignment := 7#8, reclaim := true } := by
  decide +kernel

/-- R15: PLAN_LENGTH returns the cycle length of the new count, in 3 bytes. -/
theorem test_plan_length :
    answered (after .planLength (askedUnder { Sched.reset with bankB := bankOf planP .free } 0x11#8 [1#8, 2#8])) =
      some (.ok, 0#8, [0#8, 0#8, 14#8]) := by
  decide +kernel

/-- R16: PLAN_READ of entry 2 of the ACTIVE bank. -/
theorem test_plan_read :
    answered (after .planRead (askedUnder (sched .running .free 0) 0x12#8 [0#8, 2#8, 1#8])) =
      some (.ok, 0#8, [3#8, 2#8, 0#8, 0#8, 24#8, 0#8, 10#8, 0#8, 5#8, 2#8, 1#8, 1#8]) := by
  decide +kernel

/-- Chapter 2, event 3: PLAN_COMMIT of bank B, EXCURSION, N = 2; and its refusal in HALTED. -/
theorem test_plan_commit :
    let t := after .planCommit (askedUnder (sched .running .free 19) 0x13#8 [1#8, 1#8, 2#8])
    answered t = some (.ok, 0#8, [0#8, 0#8, 32#8]) ∧ t.sched.bankB.state = .armed ∧
      t.sched.commit = some { mode := .excursion, repeatN := 2#8 } ∧
      answered (after .planCommit (asked 0x13#8 [1#8, 1#8, 2#8])) = some (.notRunning, 0#8, []) := by
  decide +kernel

/-- Chapter 2, event 5: PLAN_WITHDRAW of the ACTIVE bank is TOO_LATE with detail 2. -/
theorem test_plan_withdraw :
    answered (after .planWithdraw (askedUnder (sched .running .free 0) 0x14#8 [0#8])) = some (.tooLate, 2#8, []) := by
  decide +kernel

/-- Chapter 2, event 1: SCHED_START answers with the cycle length and cycle number 0. -/
theorem test_sched_start :
    let t := after .schedStart
      (askedUnder { Sched.reset with cycle := 9#32, bankA := bankOf planP .free } 0x15#8 [0#8])
    answered t = some (.ok, 0#8, [0#8, 0#8, 24#8]) ∧ t.me.responses.map Response.cycle = [0#32] ∧
      t.sched.startPending = true ∧ t.sched.state = .running := by
  decide +kernel

/-- R30: SCHED_STOP of an excursion marks it cut. -/
theorem test_sched_stop :
    let t := after .schedStop (askedUnder (sched .excursion .held 0) 0x16#8 [])
    t.sched.state = .stopping ∧ t.sched.stopFromExcursion = true := by
  decide +kernel

/-- Chapter 2, event 11: EXCURSION_END in STOPPING is refused with detail 3. -/
theorem test_excursion_end :
    answered (after .excursionEnd (askedUnder (sched .stopping .armed 0) 0x17#8 [])) =
      some (.notInExcursion, 3#8, []) := by
  decide +kernel

/-- R87, R88: FLOW_WRITE of record 9, and a join gap of 0 refused at offset 8. -/
theorem test_flow_write :
    let bytes (j : Byte) : List Byte :=
      [9#8, 1#8, 0x36#8, 1#8, 1#8, 1#8, 1#8, 5#8, j, 0#8, 3#8, 0#8, 0#8, 10#8, 1#8, 0x0A#8]
    (after .flowWrite (asked 0x20#8 (bytes 1#8))).flows[9] = record9 ∧
      answered (after .flowWrite (asked 0x20#8 (bytes 0#8))) = some (.badParam, 8#8, []) := by
  decide +kernel

/-- R160: the first bytes of the 40 that FLOW_READ returns. -/
theorem test_flow_read :
    (answered (after .flowRead (withRecord (asked 0x21#8 [9#8, 0#8]) record9))).map
      (fun a => (a.2.2.length, a.2.2.take 12)) =
      some (40, [0x17#8, 1#8, 0x36#8, 0xA1#8, 0x51#8, 1#8, 1#8, 0#8, 3#8, 0#8, 0#8, 10#8]) := by
  decide +kernel

/-- R90: FLOW_CLEAR keeps the fields. -/
theorem test_flow_clear :
    (after .flowClear (withRecord (asked 0x22#8 [9#8]) record9)).flows[9] = { record9 with valid := false } := by
  decide +kernel

/-- R108: FLOW_REARM of an invalid record. -/
theorem test_flow_rearm : answered (after .flowRearm (asked 0x23#8 [9#8, 0#8])) = some (.notValid, 0#8, []) := by
  decide +kernel

/-- Chapter 4, step 9: CLASS_SET below the occupancy. -/
theorem test_class_set :
    let s := asked 0x30#8 [7#8, 0#8, 0#8, 0#8, 0#8, 1#8]
    answered (after .classSet (s.setQm (queued1 7 id))) = some (.limitBelowOccupancy, 0#8, [0#8, 1#8]) := by
  decide +kernel

/-- R73, R160: CLASS_READ returns 30 bytes; the head flow reference and demoted flag stand at offsets 9 to 11. -/
theorem test_class_read :
    (answered (after .classRead ((asked 0x31#8 [7#8, 0#8]).setQm (queued1 7 id)))).map
      (fun a => (a.2.2.length, (a.2.2.drop 9).take 5)) = some (30, [1#8, 9#8, 1#8, 1#8, 0xFF#8]) := by
  decide +kernel

/-- R69: CLASS_FLUSH returns the number flushed and frees the cell. -/
theorem test_class_flush :
    let t := after .classFlush ((asked 0x32#8 [7#8]).setQm (queued1 7 id))
    answered t = some (.ok, 0#8, [0#8, 1#8]) ∧ t.qm.free.length = 512 := by
  decide +kernel

/-- R75: RELAY_SET returns the old relay class. -/
theorem test_relay_set :
    let t := after .relaySet (asked 0x33#8 [7#8])
    answered t = some (.ok, 0#8, [0#8]) ∧ t.qm.relayClass = 7 := by
  decide +kernel

/-- R122: PORT_SET with enable set and no signal, and R127: port 4 refused at offset 0. -/
theorem test_port_set :
    let t := after .portSet (asked 0x40#8 [1#8, 1#8, 8#8, 1#8, 0#8, 7#8])
    answered t = some (.ok, 0#8, [1#8, 0#8, 0#8]) ∧ t.ports[1].relay = true ∧
      answered (after .portSet (asked 0x40#8 [4#8, 1#8, 8#8, 1#8, 0#8, 7#8])) = some (.badParam, 0#8, []) := by
  decide +kernel

/-- R155, R160: the sizes of the four reports. -/
theorem test_port_read :
    (([[1#8, 0#8], [1#8, 0#8, 1#8], [4#8, 0#8, 0#8], [4#8, 0#8, 1#8]] : List (List Byte)).map (fun p =>
      (answered (after .portRead (asked 0x41#8 p))).map (fun a => a.2.2.length))) =
      [some 37, some 18, some 29, some 29] := by
  decide +kernel

/-- R163: 00h masks every kind but RESET_DONE; the mask before it reads 7Fh. -/
theorem test_notice_set :
    answered (after .noticeSet (asked 0x50#8 [0#8])) = some (.ok, 0#8, [0x7F#8]) ∧
      (after .noticeSet (asked 0x50#8 [0#8])).nu.mask = 1#7 := by
  decide +kernel

/-- R156: PART_RESET stops the engine, and its response, once sent, makes the management reset due. -/
theorem test_part_reset :
    let t := after .partReset (asked 0x7F#8 [])
    answered t = some (.ok, 0#8, []) ∧ (after .slotStart t).me.run = .resetSent := by
  decide +kernel

/-! ### Witnesses: states and operands that meet the hypotheses of the statements -/

/-- StepTakesTheFrontRow: a queue of two rows, and an empty one. -/
theorem witness_step_takes_the_front_row :
    ({ State.reset with pending := [.slotStart, .echo] }).pending = .slotStart :: [.echo] ∧ State.reset.pending = [] := by
  decide +kernel

/-- ResetHoldsEveryBlock and ResetPinDuringAResetAndShortPulses: both sides of 10 µs, in each phase. -/
theorem witness_reset_pin :
    State.reset.phase = .running ∧ 10000 ≤ 10000 ∧ 9999 < 10000 ∧
      (after .powerOnReset State.reset).phase ≠ .running ∧ (after .powerOnReset State.reset).phase = .powerOnReset ∧
      (after (.pinReset 10000) State.reset).phase ≠ .running := by
  decide +kernel

/-- ResetEndSamplesTheStraps: a power-on reset with the pin released and held, one that the pin prolongs, and a pin
reset. -/
theorem witness_reset_end :
    let p := after .powerOnReset State.reset
    let low := after (.pinReset 10000) p
    (p.phase = .powerOnReset ∧ p.pins.resetN = true) ∧ (low.phase = .powerOnReset ∧ low.pins.resetN = false) ∧
      (after (.powerOnResetEnd 0#6 false) low).phase = .powerOnHeld ∧
      (after (.pinReset 10000) State.reset).phase = .pinReset := by
  decide +kernel

/-- ManagementResetKeepsTheStraps: the slot that carried the PART_RESET response. -/
theorem witness_management_reset :
    let s := after .slotStart (after .partReset (asked 0x7F#8 []))
    s.phase = .running ∧ s.me.run = .resetSent := by
  decide +kernel

/-- NothingIsTakenDuringAReset: a reset in progress, and the first and the last row of the list. -/
theorem witness_during_a_reset :
    (after .powerOnReset State.reset).phase ≠ .running ∧ (after (.pinReset 10000) State.reset).phase ≠ .running ∧
      (.echo, .echo) ∈ commandRows ∧ (.partReset, .partReset) ∈ commandRows := by
  decide +kernel

/-- AlignmentPlacesTheOpenSlots: the three alignments; open length 0 and open length equal to the span. -/
theorem witness_alignment :
    (∀ e ∈ planP, e.openLen.toNat ≤ e.span.toNat ∧ e.alignment.toNat ≤ 2) ∧
      planP.map WindowEntry.alignment = [0#8, 2#8, 1#8] ∧ planP[1].isOpen 2 = true ∧ planP[1].isOpen 3 = true ∧
      planQ[0].openLen = 0#16 ∧ planQ[0].openLen.toNat ≤ planQ[0].span.toNat ∧
      ({ planQ[0] with openLen := 32#16 }).openLen = ({ planQ[0] with openLen := 32#16 }).span := by
  decide

/-- SpansTileTheCycle: the first and the last offset of a span. -/
theorem witness_tiling : planP = planP.take 1 ++ planP[1] :: planP.drop 2 ∧ 0 < planP[1].span.toNat ∧
    5 < planP[1].span.toNat := by
  decide

/-- WindowSlotsAreTheSumOfTheOpenLengths: a valid plan. -/
theorem witness_valid_plan : (bankOf planP .free).planFault = none := by
  decide +kernel

/-- ValidationMakesItsChecksInOrder, check 1: counts outside 1 to 64, and the counts 1 and 64. -/
theorem witness_validation_counts :
    ¬ (1 ≤ (bankOf [] .free).count ∧ (bankOf [] .free).count ≤ 64) ∧
      ¬ (1 ≤ ({ bankOf planQ .free with count := 65 }).count ∧ ({ bankOf planQ .free with count := 65 }).count ≤ 64) ∧
      (1 ≤ (bankOf planQ .free).count ∧ (bankOf planQ .free).count ≤ 64) ∧
      (1 ≤ ({ bankOf planQ .free with count := 64 }).count ∧
        ({ bankOf planQ .free with count := 64 }).count ≤ 64) := by
  decide +kernel

/-- An entry of a span, an open length and an owner, LEADING. -/
def entry (span openLen : BitVec 16) (owner : Byte) : WindowEntry :=
  { span := span, openLen := openLen, owner := owner, alignment := 0#8, reclaim := false }

/-- ValidationMakesItsChecksInOrder, checks 2a to 2d: an entry after one that fits, failing each check first, at the
boundaries. -/
theorem witness_validation_entries :
    (let e := entry 0#16 0#16 0#8;
      EntryFits (entry 8#16 4#16 0#8) ∧ (bankOf [entry 8#16 4#16 0#8, e] .free).plan = [entry 8#16 4#16 0#8] ++ e :: [] ∧
        ¬ (1 ≤ e.span.toNat ∧ e.span.toNat ≤ 1024)) ∧
      ¬ (1 ≤ (entry 1025#16 0#16 0#8).span.toNat ∧ (entry 1025#16 0#16 0#8).span.toNat ≤ 1024) ∧
      (1 ≤ (entry 1024#16 1024#16 8#8).span.toNat ∧ (entry 1024#16 1024#16 8#8).span.toNat ≤ 1024 ∧
        (entry 1024#16 1024#16 8#8).openLen.toNat ≤ (entry 1024#16 1024#16 8#8).span.toNat ∧
        (entry 1024#16 1024#16 8#8).owner.toNat ≤ 8) ∧
      (entry 1024#16 1025#16 8#8).span.toNat < (entry 1024#16 1025#16 8#8).openLen.toNat ∧
      8 < (entry 1#16 1#16 9#8).owner.toNat ∧ 2 < ({ entry 1#16 1#16 8#8 with alignment := 3#8 }).alignment.toNat := by
  decide +kernel

/-- ValidationMakesItsChecksInOrder, checks 3 and 4: cycles of 7, 8, 16 384 and 16 385 slots; plans without and with a
management-capable slot. -/
theorem witness_validation_cycle :
    (∀ x ∈ ([([entry 7#16 0#16 0#8], 7), ([entry 8#16 0#16 0#8], 8),
        (List.replicate 16 (entry 1024#16 0#16 0#8), 16384),
        (entry 1#16 0#16 0#8 :: List.replicate 16 (entry 1024#16 0#16 0#8), 16385)] : List (List WindowEntry × Nat)),
      (bankOf x.1 .free).plan = x.1 ∧ (∀ e ∈ x.1, EntryFits e) ∧ (x.1.map (fun e => e.span.toNat)).sum = x.2) ∧
    ((bankOf [entry 8#16 8#16 7#8] .free).plan = [entry 8#16 8#16 7#8] ∧
      (entry 8#16 8#16 7#8).openLen = (entry 8#16 8#16 7#8).span ∧ (entry 8#16 8#16 7#8).owner ≠ 8#8) ∧
    (entry 8#16 7#16 7#8).openLen ≠ (entry 8#16 7#16 7#8).span ∧ (entry 8#16 8#16 8#8).owner = 8#8 := by
  decide +kernel

/-- The laws of the scheduler hold of a running scheduler with a commit waiting. -/
theorem laws_of_running_sched :
    SchedLaws { sched .running .armed 23 with commit := some { mode := .permanent, repeatN := 0#8 } } where
  pair := by decide +kernel
  active := fun i => by cases i <;> decide +kernel
  contents := fun i => by cases i <;> decide +kernel
  counts := fun i => by cases i <;> decide +kernel
  position := by decide +kernel
  halted := by decide +kernel
  pending := by decide +kernel
  commit := ⟨fun _ => ⟨.b, rfl⟩, fun _ => rfl⟩
  left := fun h => absurd rfl h
  request := fun h => by cases h
  cut := ⟨fun h => (by cases h), fun h => (by cases h.1)⟩

/-- EveryCycleHasAManagementCapableSlot and EveryStepKeepsTheSchedulerLaws: that scheduler at a slot start. -/
theorem witness_scheduler_laws :
    let s := { under { sched .running .armed 23 with commit := some { mode := .permanent, repeatN := 0#8 } } with
      pending := [.slotStart] }
    SchedLaws s.sched ∧ s.sched.state ≠ .halted ∧ ∃ t, step s = .next t :=
  ⟨laws_of_running_sched, by decide, _, rfl⟩

/-- SlotStartWithoutABoundary: a posting that waits, HALTED, the first slot of a plan, and the last position but one. -/
theorem witness_slot_start :
    (let s := after .slotStart (under (sched .stopping .free 23));
      s.phase = .running ∧ s.nu.handed = some (.schedHalted 5#32 false false)) ∧
    (Slotting State.reset ∧ State.reset.sched.state = .halted) ∧
      (let s := under { sched .running .free 0 with startPending := true };
        Slotting s ∧ s.sched.state ≠ .halted ∧ s.sched.active = some .a ∧ s.sched.startPending = true) ∧
      (let s := under (sched .running .free 22);
        Slotting s ∧ s.sched.state ≠ .halted ∧ s.sched.active = some .a ∧ s.sched.startPending = false ∧
          s.sched.position + 1 < (s.sched.bank .a).cycleLength) := by
  decide +kernel

/-- HaltingBoundary: the last slot of a cycle in STOPPING. -/
theorem witness_halting_boundary :
    CycleEnds (under (sched .stopping .armed 23)) .a ∧ (under (sched .stopping .armed 23)).sched.state = .stopping := by
  decide +kernel

/-- ExcursionBoundaries: the count at 0, a request with the count at 1, and the count at 1. -/
theorem witness_excursion_boundaries :
    (let s := under (sched .excursion .held 23);
      CycleEnds s .a ∧ s.sched.state = .excursion ∧ (s.sched.bank .a).state = .active ∧
        (s.sched.bank .b).state = .held ∧ (s.sched.endRequested = true ∨ s.sched.excursionLeft = 0#8)) ∧
    (let s := under { sched .excursion .held 23 with endRequested := true, excursionLeft := 1#8 };
      CycleEnds s .a ∧ s.sched.state = .excursion ∧ (s.sched.bank .a).state = .active ∧
        (s.sched.bank .b).state = .held ∧ (s.sched.endRequested = true ∨ s.sched.excursionLeft = 0#8)) ∧
    (let s := under { sched .excursion .held 23 with excursionLeft := 1#8 };
      CycleEnds s .a ∧ s.sched.state = .excursion ∧ s.sched.endRequested = false ∧ s.sched.excursionLeft ≠ 0#8) := by
  decide +kernel

/-- RunningBoundaries: a swap, and a boundary with no bank ARMED. -/
theorem witness_running_boundaries :
    (let s := under { sched .running .armed 23 with commit := some { mode := .excursion, repeatN := 255#8 } };
      CycleEnds s .a ∧ s.sched.state = .running ∧ (s.sched.bank .a).state = .active ∧
        (s.sched.bank .b).state = .armed ∧ s.sched.commit = some { mode := .excursion, repeatN := 255#8 }) ∧
    (let s := under (sched .running .free 23);
      CycleEnds s .a ∧ s.sched.state = .running ∧ (s.sched.bank .a).state ≠ .armed ∧
        (s.sched.bank .b).state ≠ .armed) := by
  decide +kernel

/-- A response record. -/
def response : Response :=
  { node := 0#8, seq := 0#8, code := 1#8, status := .ok, detail := 0#8, replayed := false, cycle := 0#32, data := [] }

/-- WindowSlotsServeTheirOwner and FreeSlotsGoByPrecedence: a head, an empty class, a response, a notice, nothing. -/
theorem witness_sources :
    (State.reset.setQm (queued1 7 id)).qm.classes[7].queue = { index := 0, flow := some 9, demoted := true } :: [] ∧
      State.reset.qm.classes[0].queue = [] ∧
      ({ State.reset with me := { State.reset.me with responses := [response] } }).me.responses = response :: [] ∧
      (State.reset.me.responses = [] ∧ State.reset.nu.queue = Notice.resetDone 0#8 .powerOn :: []) ∧
      ({ State.reset with nu := { State.reset.nu with queue := [] } }).nu.queue = [] := by
  decide +kernel

/-- FreeSlotsGoByPrecedence, the last two clauses: a winner, and no candidate (a class that is not eligible). -/
theorem witness_free_slot_classes :
    (let s := { State.reset.setQm (queued1 7 id) with nu := { State.reset.nu with queue := [] } };
      s.me.responses = [] ∧ s.nu.queue = [] ∧ s.qm.winner = some 7 ∧
        s.qm.classes[7].queue = { index := 0, flow := some 9, demoted := true } :: []) ∧
    (let s := { State.reset.setQm (queued1 7 (fun c => { c with eligible := false })) with
        nu := { State.reset.nu with queue := [] } };
      s.me.responses = [] ∧ s.nu.queue = [] ∧
        ∀ k : ClassId, ¬ (s.qm.classes[k].eligible = true ∧ s.qm.classes[k].queue ≠ [])) := by
  decide +kernel

/-- CellsSurviveTheWire: a cell of each kind, payload lengths 0, 1 and 52. -/
theorem witness_cells :
    ∀ c ∈ [Cell.idle, cellOf .data 0#12 1#8 1#8, cellOf .command 4095#12 52#8 1#8, cellOf .response 4095#12 52#8 1#8,
        cellOf .notice 4095#12 1#8 1#8],
      trunkAccepts c.kind = true ∧ stationAccepts true c.kind = true ∧ (c.kind = .idle → c.len = 0#8) ∧
        (c.kind ≠ .idle → 1 ≤ c.len.toNat ∧ c.len.toNat ≤ 52) := by
  decide

/-- CellsSurviveTheWire: responses of 0 and 40 data bytes. -/
theorem witness_response_data :
    response.data.length ≤ 40 ∧ ({ response with data := List.replicate 40 1#8 }).data.length ≤ 40 := by
  decide

/-- CellsAreJudgedByThreeChecksInOrder: cells cut after 7, 8 and 63 bytes, the header check good and bad. -/
theorem witness_cut_short :
    (List.replicate 7 0#8).length < 8 ∧
      (∀ n ∈ [8, 63], (List.replicate n 0#8).length < 64 ∧ 8 ≤ (List.replicate n 0#8).length ∧
        headerCheck ((List.replicate n 0#8).take 7) = (List.replicate n 0#8).getD 7 0#8) ∧
      ∀ n ∈ [8, 63], (List.replicate n 0xFF#8).length < 64 ∧
        headerCheck ((List.replicate n 0xFF#8).take 7) ≠ (List.replicate n 0xFF#8).getD 7 0#8 := by
  decide +kernel

/-- CellsAreJudgedByThreeChecksInOrder: the header check and the cell check fail. -/
theorem witness_bad_checks :
    (let bytes := List.replicate 64 0xFF#8;
      bytes.length = 64 ∧ headerCheck (bytes.take 7) ≠ bytes.getD 7 0#8) ∧
    (let bytes := List.replicate 64 0#8;
      bytes.length = 64 ∧ headerCheck (bytes.take 7) = bytes.getD 7 0#8 ∧
        cellCheck (bytes.take 60) ≠ read32 bytes 60) := by
  decide +kernel

/-- CellsAreJudgedByThreeChecksInOrder: 64 bytes with good checks. -/
def goodChecks (header : List Byte) : Prop :=
  (sealedBytes header).length = 64 ∧
    headerCheck ((sealedBytes header).take 7) = (sealedBytes header).getD 7 0#8 ∧
    cellCheck ((sealedBytes header).take 60) = read32 (sealedBytes header) 60

/-- CellsAreJudgedByThreeChecksInOrder: the kind check fails for code 5, an IDLE of length 1, lengths 0 and 53, and a
RESPONSE that the port does not accept; it passes for lengths 0 (IDLE), 1 and 52. -/
theorem witness_kind_check :
    (goodChecks [5#8, 0#8, 0#8, 1#8, 0#8, 0#8, 0#8] ∧ goodChecks [0#8, 0#8, 0#8, 1#8, 0#8, 0#8, 0#8] ∧
      goodChecks [1#8, 0#8, 0#8, 0#8, 0#8, 0#8, 0#8] ∧ goodChecks [1#8, 0#8, 0#8, 53#8, 0#8, 0#8, 0#8] ∧
      goodChecks [3#8, 0x0F#8, 0xFF#8, 10#8, 0#8, 0#8, 0#8] ∧ Kind.response.code = 3#8 ∧
      stationAccepts false .response = false) ∧
    (goodChecks [0#8, 0#8, 0#8, 0#8, 0#8, 0#8, 0#8] ∧ Kind.idle.code = 0#8 ∧
      goodChecks [1#8, 0#8, 0#8, 1#8, 0#8, 0#8, 0#8] ∧ goodChecks [1#8, 0#8, 0#8, 52#8, 0#8, 0#8, 0#8] ∧
      Kind.data.code = 1#8 ∧ stationAccepts false .data = true) := by
  unfold goodChecks
  decide +kernel

/-- Whether bytes are a good cell of a kind. -/
def goodOf (accepts : Kind → Bool) (k : Kind) (bytes : List Byte) : Bool :=
  match judge accepts bytes with
  | .good c => c.kind == k
  | .bad _ => false

/-- One good cell of each kind; that of kind DATA has every reserved bit 1 (R158). -/
def goodCells : List (Kind × List Byte) :=
  [(.idle, Cell.idle.wire), (.data, sealedBytes [1#8, 0x71#8, 0x36#8, 52#8, 255#8, 255#8, 255#8]),
    (.command, (cellOf .command 4095#12 52#8 1#8).wire), (.response, (cellOf .response 4095#12 52#8 1#8).wire),
    (.notice, (cellOf .notice 4095#12 1#8 1#8).wire)]

/-- ActivePortTakesGoodCellsByKind and TrunkTakesCells: a good cell of each kind. -/
theorem witness_good_cells :
    ∀ x ∈ goodCells, goodOf trunkAccepts x.1 x.2 = true ∧ goodOf (stationAccepts true) x.1 x.2 = true := by
  decide +kernel

/-- ActivePortTakesGoodCellsByKind: an ACTIVE port with its relay bit set. -/
theorem witness_active_port :
    (port1 .active true true).phase = .running ∧ (port1 .active true true).ports[1].state = .active ∧
      (port1 .active true true).ports[1].relay = true := by
  decide +kernel

/-- BadCellsAndQuarantine: a cell bad under each check, and both sides of the threshold 8, and the threshold 0. -/
theorem witness_bad_cells :
    judge (stationAccepts false) [] = .bad .header ∧
      judge (stationAccepts false) (List.replicate 64 0#8) = .bad .cell ∧
      judge (stationAccepts false) (sealedBytes [5#8, 0#8, 0#8, 1#8, 0#8, 0#8, 0#8]) = .bad .kind ∧
      (let pt := inState .active true false { Port.reset false with streak := 7#8 };
        pt.threshold ≠ 0#8 ∧ pt.threshold.toNat ≤ (satAdd pt.streak 1).toNat) ∧
      (let pt := inState .active true false { Port.reset false with streak := 6#8 };
        (satAdd pt.streak 1).toNat < pt.threshold.toNat) ∧
      ({ Port.reset false with threshold := 0#8 }).threshold = 0#8 := by
  decide +kernel

/-- BadCellsAndQuarantine: the port states, and the cells that a QUARANTINED port tells apart. -/
theorem witness_quarantine :
    ((port1 .active true false).phase = .running ∧ (port1 .active true false).ports[1].state = .active ∧
      (port1 .active true false).ports[1].relay = false) ∧
    ((port1 .quarantined true false).phase = .running ∧ (port1 .quarantined true false).ports[1].state = .quarantined) ∧
    (∀ c, judge (stationAccepts (port1 .quarantined true false).ports[1].relay) [] = .good c → c.kind ≠ .idle) ∧
    judge (stationAccepts (port1 .quarantined true false).ports[1].relay) Cell.idle.wire = .good Cell.idle ∧
    Cell.idle.kind = .idle ∧ State.reset.ports[1].state = .disabled ∧
    (port1 .waiting false false).ports[1].state = .waiting := by
  refine ⟨by decide +kernel, by decide +kernel, fun c h => ?_, by decide +kernel, rfl, by decide +kernel,
    by decide +kernel⟩
  rw [show judge _ [] = .bad .header from rfl] at h
  cases h

/-- LineSignalMovesAPort: the port states and a reset in progress. -/
theorem witness_line_signal :
    State.reset.phase = .running ∧ (port1 .waiting false false).ports[1].state = .waiting ∧
      State.reset.ports[1].state ≠ .waiting ∧ (port1 .active true false).ports[1].state = .active ∧
      State.reset.ports[1].state ≠ .active ∧ (after .powerOnReset State.reset).phase ≠ .running := by
  decide +kernel

/-- StationTransmitsItsHeadOrAnIdleCell: DISABLED, an empty FIFO, and a FIFO of one cell. -/
theorem witness_station_transmit :
    State.reset.phase = .running ∧ State.reset.ports[1].state = .disabled ∧
      ((port1 .waiting false false).ports[1].state ≠ .disabled ∧ (port1 .waiting false false).ports[1].egress = []) ∧
      (let s := (port1 .active true false).updPort 1 (fun pt => { pt with egress := [Cell.idle] });
        s.ports[1].state ≠ .disabled ∧ s.ports[1].egress = Cell.idle :: []) := by
  decide +kernel

/-- The laws of the flow table hold of a table with one sound record. -/
theorem laws_of_one_record {r : FlowRecord} (hid : r.terms.flowId ≠ 0#12 ∧ r.terms.flowId ≠ 4095#12)
    (hgap : r.terms.joinGap ≠ 0#8) : FlowLaws (table r) := by
  have key : ∀ j : FlowIndex, (table r)[j].valid = true → j = 9 ∧ (table r)[j] = r := fun j hj => by
    by_cases h : (9 : FlowIndex) = j
    · subst h; exact ⟨rfl, getElem_updateAt_self _ _ _⟩
    · exfalso
      rw [table, getElem_updateAt_ne _ h] at hj
      simp [FlowRecord.reset] at hj
  refine ⟨fun i h => ?_, fun i j hi hj _ => (key i hi).1.trans (key j hj).1.symm, fun i h => ?_⟩
  · rw [(key i h).2]; exact hid
  · rw [(key i h).2]; exact hgap

/-- UnknownAndMisroutedCells: the cell at the head of what the port handed on and behind one offer; a table without its
flow, a record with upstream clear, and a record of another source port. -/
theorem witness_unknown_and_misrouted :
    let o : Offer := { cell := cell310, target := .relay, flow := none, demoted := false }
    let s (h : List HandOff) : State := (port1 .active true false).updPort 1 (fun pt => { pt with handoff := h })
    (s []).phase = .running ∧
      (s [.classify cell310 1#32]).ports[1].handoff = [].map HandOff.offer ++ .classify cell310 1#32 :: [] ∧
      (s [.offer o, .classify cell310 1#32]).ports[1].handoff = [o].map .offer ++ .classify cell310 1#32 :: [] ∧
      (∀ i : FlowIndex, State.reset.flows[i].valid = true → State.reset.flows[i].terms.flowId = cell310.flowId →
        State.reset.flows[i].terms.upstream = false) ∧
      (let r := { record9 with terms := { record9.terms with upstream := false } };
        ∀ i : FlowIndex, (table r)[i].valid = true → (table r)[i].terms.flowId = cell310.flowId →
          (table r)[i].terms.upstream = false) ∧
      (let r := { record9 with terms := { record9.terms with sourcePort := 0 } };
        FlowLaws (table r) ∧ (table r)[9].valid = true ∧ (table r)[9].terms.flowId = cell310.flowId ∧
          (table r)[9].terms.upstream = true ∧ (table r)[9].terms.sourcePort ≠ 1) :=
  ⟨by decide +kernel, by decide +kernel, by decide +kernel, by decide +kernel, by decide +kernel,
    laws_of_one_record (by decide) (by decide), by decide +kernel⟩

/-- KnownFlowsAreMeasuredAndPoliced: record 9 with a conforming first arrival, and a non-conforming one. -/
theorem witness_known_flow :
    let h : HandOff := .classify cell310 1#32
    let s := withRecord ((port1 .active true false).updPort 1 (fun pt => { pt with handoff := [h] })) record9
    let r := { record9 with meas := { record9.meas with seen := true, currentBurst := 3#16 } }
    s.phase = .running ∧ s.ports[1].handoff = [].map HandOff.offer ++ .classify cell310 1#32 :: [] ∧
      FlowLaws s.flows ∧ s.flows[9].valid = true ∧ s.flows[9].terms.flowId = cell310.flowId ∧
      s.flows[9].terms.upstream = true ∧ s.flows[9].terms.sourcePort = 1 ∧ s.flows[9].verdict 1#32 = .conforming ∧
      FlowLaws (table r) ∧ (table r)[9].verdict 1#32 = .nonConforming .burst 4#32 :=
  ⟨by decide +kernel, by decide +kernel, laws_of_one_record (by decide) (by decide), by decide +kernel,
    by decide +kernel, by decide +kernel, by decide +kernel, by decide +kernel,
    laws_of_one_record (by decide) (by decide), by decide +kernel⟩

/-- ArrivalsAreMeasuredInBursts: a first arrival; d = J with the count at B and above it, and B = 0; d = J + 1 with d
below G and at G, and G = 0. -/
theorem witness_arrivals :
    let r (burst : BitVec 16) : FlowRecord :=
      { record9 with meas := { record9.meas with seen := true, lastArrival := 100#32, currentBurst := burst } }
    let d (x : FlowRecord) (t : Word32) : Nat := (t - x.meas.lastArrival).toNat
    let count (x : FlowRecord) : Nat := min (x.meas.currentBurst.toNat + 1) 65535
    record9.meas.seen = false ∧ (r 2#16).meas.seen = true ∧ d (r 2#16) 101#32 ≤ (r 2#16).terms.joinGap.toNat ∧
      count (r 2#16) ≤ (r 2#16).terms.burstLimit.toNat ∧
      ((r 3#16).terms.burstLimit ≠ 0#16 ∧ (r 3#16).terms.burstLimit.toNat < count (r 3#16)) ∧
      ({ record9.terms with burstLimit := 0#16 }).burstLimit = 0#16 ∧
      (r 2#16).terms.joinGap.toNat < d (r 2#16) 102#32 ∧
      ((r 2#16).terms.minGap ≠ 0#24 ∧ d (r 2#16) 109#32 < (r 2#16).terms.minGap.toNat) ∧
      (r 2#16).terms.minGap.toNat ≤ d (r 2#16) 110#32 ∧ ({ record9.terms with minGap := 0#24 }).minGap = 0#24 := by
  decide +kernel

/-- AdmissionStoresOrDropsAnOffer: a class one below its limit with a cell free, a class at its limit, and no cell
free; a named class and the relay class. -/
theorem witness_admission :
    let o (t : Target) : Offer := { cell := cell310, target := t, flow := some 9, demoted := false }
    let s (t : Target) : State := (port1 .active true true).updPort 1 (fun pt => { pt with handoff := [.offer (o t)] })
    (s (.named 7)).phase = .running ∧ (s (.named 7)).ports[1].handoff = .offer (o (.named 7)) :: [] ∧
      (s .relay).ports[1].handoff = .offer (o .relay) :: [] ∧
      (let q := queued1 7 (fun c => { c with limit := 2 });
        q.classes[7].queue.length < q.classes[7].limit ∧ q.free = 1 :: (List.finRange 512).drop 2) ∧
      (let q := queued1 7 (fun c => { c with limit := 1 });
        q.classes[7].limit ≤ q.classes[7].queue.length) ∧
      ({ QueueManager.reset with free := [] }).free = [] := by
  decide +kernel

/-- TrunkTakesCells: UP and DOWN, a cell bad under each check, a piece of a cell and a whole one (the good cells are
those of `witness_good_cells`). -/
theorem witness_trunk_cells :
    (trunkUp.phase = .running ∧ trunkUp.trunk.signal = true) ∧
      (State.reset.phase = .running ∧ State.reset.trunk.signal = false) ∧
      ([] : List Byte).length < 64 ∧ 64 ≤ (List.replicate 64 0#8).length ∧ judge trunkAccepts [] = .bad .header ∧
      judge trunkAccepts (List.replicate 64 0#8) = .bad .cell ∧
      judge trunkAccepts (sealedBytes [5#8, 0#8, 0#8, 1#8, 0#8, 0#8, 0#8]) = .bad .kind := by
  decide +kernel

/-- TrunkSignalChangesAreReported: a change, no change, and a reset in progress. -/
theorem witness_trunk_signal :
    State.reset.phase = .running ∧ State.reset.trunk.signal ≠ true ∧ State.reset.trunk.signal = false ∧
      (after .powerOnReset State.reset).phase ≠ .running := by
  decide +kernel

/-- CommandsAreQueuedOrRelayed: the wildcard, the own address and another node's; 3 and 4 commands waiting; a relay bit
set and none. -/
theorem witness_commands :
    let c (node : Byte) : Cell := cellOf .command 4095#12 3#8 node
    let mine := { State.reset with me := { State.reset.me with nodeAddr := 3#8, straps := 3#6 } }
    (toForward mine (c 0#8)).phase = .running ∧ (toForward mine (c 0#8)).trunk.handoff = c 0#8 :: [] ∧
      (c 0#8).kind = .command ∧ (c 0#8).payload[0] = 0#8 ∧ (c 3#8).payload[0] = mine.me.nodeAddr ∧
      ((c 5#8).payload[0] ≠ 0#8 ∧ (c 5#8).payload[0] ≠ mine.me.nodeAddr) ∧
      (holding mine (List.replicate 3 (cmd 1#8 []))).me.commands.length < 4 ∧
      4 ≤ (holding mine (List.replicate 4 (cmd 1#8 []))).me.commands.length ∧
      (port1 .active true true).ports[1].relay = true ∧ (∀ p : PortId, State.reset.ports[p].relay = false) := by
  decide +kernel

/-- DataIsDeliveredByTheMask and EachTrunkCellHasOneCountedOutcome: a found cell with a mask and without, an unmatched
one, a misdirected one; counters one below their largest value. -/
theorem witness_data :
    let c := cellOf .data 310#12 52#8 0#8
    (toForward State.reset c).phase = .running ∧ (toForward State.reset c).trunk.handoff = c :: [] ∧ c.kind = .data ∧
      FlowLaws (table record9) ∧ (table record9)[9].valid = true ∧ (table record9)[9].terms.flowId = c.flowId ∧
      (table record9)[9].terms.mask ≠ 0#4 ∧
      (let r := { record9 with terms := { record9.terms with mask := 0#4 } };
        FlowLaws (table r) ∧ (table r)[9].valid = true ∧ (table r)[9].terms.flowId = c.flowId ∧
          (table r)[9].terms.mask = 0#4) ∧
      (∀ i : FlowIndex, State.reset.flows[i].valid = true → State.reset.flows[i].terms.flowId ≠ c.flowId) ∧
      (cellOf .response 4095#12 10#8 0#8).kind = .response ∧ (cellOf .notice 4095#12 9#8 0#8).kind = .notice :=
  ⟨by decide +kernel, by decide +kernel, by decide, laws_of_one_record (by decide) (by decide), by decide +kernel,
    by decide +kernel, by decide +kernel,
    ⟨laws_of_one_record (by decide) (by decide), by decide +kernel, by decide +kernel, by decide +kernel⟩,
    by decide +kernel, rfl, rfl⟩

/-- Every cell handed to the forwarder is taken. -/
theorem forward_answers (s : State) : ∃ t, exec .downstreamForward s = .next t := by
  unfold exec execDownstreamForward
  exact ⟨_, rfl⟩

/-- A DATA cell waiting for the forwarder, and counters one below their largest value. -/
def forwarding : State :=
  { toForward State.reset (cellOf .data 310#12 52#8 0#8) with
    df := { Forwarder.reset with dataUnmatched := 0xFFFFFFFE#32 }
    me := { Engine.reset 0#8 0#6 false .powerOn with commandDrops := 0xFFFE#16 } }

/-- EachTrunkCellHasOneCountedOutcome: counters one below their largest value. -/
theorem witness_one_outcome :
    forwarding.phase = .running ∧ forwarding.trunk.handoff = cellOf .data 310#12 52#8 0#8 :: [] ∧
      (cellOf .data 310#12 52#8 0#8).kind ≠ .idle ∧
      (∀ n ∈ [forwarding.df.commandsTaken, forwarding.df.commandsRelayed, forwarding.df.commandsUnrelayable,
        forwarding.df.dataForwarded, forwarding.df.dataWithoutPorts, forwarding.df.dataUnmatched,
        forwarding.df.misdirected], n ≠ 0xFFFFFFFF#32) ∧
      forwarding.me.commandDrops ≠ 0xFFFF#16 ∧ ∃ t, exec .downstreamForward forwarding = .next t := by
  have hd : forwarding.df = { Forwarder.reset with dataUnmatched := 0xFFFFFFFE#32 } := by simp only [forwarding]
  have hm : forwarding.me.commandDrops = 0xFFFE#16 := by simp only [forwarding]
  refine ⟨?_, ?_, by decide, ?_, hm ▸ by decide, forward_answers _⟩
  · simp [forwarding, toForward, State.reset, State.setTrunk]
  · simp [forwarding, toForward, State.setTrunk]
  · rw [hd]; simp [Forwarder.reset]

/-- EachTrunkCellHasOneCountedOutcome: a sum that is the largest value, and sums above it. -/
theorem witness_saturation :
    (0xFFFFFFFE#32).toNat + 1 < 2 ^ 32 ∧ 2 ^ 32 ≤ (0xFFFFFFFF#32).toNat + 1 ∧ 2 ^ 32 ≤ (0xFFFFFFF0#32).toNat + 512 := by
  decide

/-- BadCommandsAreAnswered: payload lengths 1 and 2, an unknown code at payload length 3, and payload length 52. -/
theorem witness_bad_commands :
    (∀ len ∈ [1#8, 2#8], Ready (holding State.reset [{ cmd 1#8 [] with len := len }]) { cmd 1#8 [] with len := len } [] ∧
      ({ cmd 1#8 [] with len := len }).len.toNat < 3) ∧
    Ready (asked 0x04#8 []) (cmd 0x04#8 []) [] ∧ 3 ≤ (cmd 0x04#8 []).len.toNat ∧
    (∀ k : CommandCode, k.code ≠ (cmd 0x04#8 []).codeByte) ∧
    (asked 0x04#8 []).me.cache.map CacheEntry.seq ≠ some (cmd 0x04#8 []).seq ∧
    (cmd 0x01#8 (List.replicate 49 9#8)).len.toNat = 52 :=
  ⟨by decide +kernel, by decide +kernel, by decide +kernel, fun k => by cases k <;> decide +kernel, by decide +kernel,
    by decide +kernel⟩

/-- DuplicatesAreReplayed: every command, and an unknown code, under the cached sequence number, 7 records waiting. -/
theorem witness_duplicates :
    let e : CacheEntry := { seq := 7#8, record := response }
    let s (code : Byte) : State := { State.reset with
      me := { State.reset.me with
        commands := [cmd code []], responses := List.replicate 7 response, cache := some e } }
    (∀ r ∈ commandRows, Ready (s r.2.code) (cmd r.2.code []) [] ∧ 3 ≤ (cmd r.2.code []).len.toNat ∧
      (cmd r.2.code []).codeByte = r.2.code ∧ (s r.2.code).me.cache = some e ∧ e.seq = (cmd r.2.code []).seq) ∧
    Ready (s 0x04#8) (cmd 0x04#8 []) [] ∧ e.seq = (cmd 0x04#8 []).seq := by
  decide +kernel

/-- TheEngineWaits: no command, 8 records waiting, PART_RESET answered; a short command and another command; the row
BAD_COMMAND with a command of known code and payload length 3. -/
theorem witness_engine_waits :
    State.reset.me.commands = [] ∧ 8 ≤ (List.replicate 8 response).length ∧
      (after .partReset (asked 0x7F#8 [])).me.run ≠ .taking ∧
      (asked 0x02#8 []).me.commands = cmd 0x02#8 [] :: [] ∧ (cmd 0x02#8 []).codeByte ≠ CommandCode.echo.code ∧
      ({ cmd 0x01#8 [] with len := 2#8 }).len.toNat < 3 ∧
      (3 ≤ (cmd 0x02#8 []).len.toNat ∧ (cmd 0x02#8 []).codeByte = CommandCode.identify.code) := by
  decide +kernel

/-- BadParametersAreRefused: each command of fixed length with one byte missing and with none missing and a parameter
out of range (FLOW_CLEAR has no range). -/
theorem witness_bad_parameters :
    ∀ r ∈ parameterRanges,
      (let p := List.replicate (r.2.2.1 - 1) 0#8;
        Fresh (asked r.2.1.code p) (cmd r.2.1.code p) [] r.2.1 ∧ (cmd r.2.1.code p).params.length < r.2.2.1) ∧
      (let p := List.replicate r.2.2.1 255#8;
        Fresh (asked r.2.1.code p) (cmd r.2.1.code p) [] r.2.1 ∧ r.2.2.1 ≤ (cmd r.2.1.code p).params.length ∧
          (r.2.2.2 = [] ∨ (r.2.2.2.find? (fun x => !inRange (cmd r.2.1.code p).params x)).isSome = true)) := by
  decide +kernel

/-- BadParametersAreRefused, PLAN_READ and PLAN_WRITE: 2 bytes; bank 2; first index 64; counts 6, 0 and one too many;
an entry short by one byte. -/
theorem witness_bad_plan_parameters :
    (∀ p ∈ ([[0#8, 0#8], [2#8, 0#8, 1#8], [1#8, 64#8, 1#8], [1#8, 63#8, 6#8], [1#8, 63#8, 2#8], [1#8, 63#8, 0#8],
        [1#8, 63#8, 1#8, 0#8, 0#8, 0#8, 0#8, 0#8, 0#8]] : List (List Byte)),
      Fresh (asked 0x12#8 p) (cmd 0x12#8 p) [] .planRead ∧ Fresh (asked 0x10#8 p) (cmd 0x10#8 p) [] .planWrite) ∧
      (let n (p : List Byte) (i : Nat) : Nat := number (cmd 0x10#8 p).params i 1;
        (cmd 0x10#8 [0#8, 0#8]).params.length < 3 ∧ 1 < n [2#8, 0#8, 1#8] 0 ∧
          (n [1#8, 64#8, 1#8] 0 ≤ 1 ∧ 63 < n [1#8, 64#8, 1#8] 1) ∧
          (n [1#8, 63#8, 6#8] 1 ≤ 63 ∧ 5 < n [1#8, 63#8, 6#8] 2) ∧
          (1 ≤ n [1#8, 63#8, 2#8] 2 ∧ 64 < n [1#8, 63#8, 2#8] 1 + n [1#8, 63#8, 2#8] 2) ∧
          n [1#8, 63#8, 0#8] 2 < 1) ∧
      (let p := [1#8, 63#8, 1#8, 0#8, 0#8, 0#8, 0#8, 0#8, 0#8];
        number (cmd 0x10#8 p).params 1 1 + number (cmd 0x10#8 p).params 2 1 ≤ 64 ∧
          (cmd 0x10#8 p).params.length < 3 + 7 * number (cmd 0x10#8 p).params 2 1) := by
  decide +kernel

/-- EchoAndIdentifyAnswer: 40 and 41 parameter bytes. -/
theorem witness_echo_identify :
    Fresh (asked 0x01#8 (List.replicate 40 1#8)) (cmd 0x01#8 (List.replicate 40 1#8)) [] .echo ∧
      (cmd 0x01#8 (List.replicate 40 1#8)).params.length ≤ 40 ∧
      Fresh (asked 0x01#8 (List.replicate 41 1#8)) (cmd 0x01#8 (List.replicate 41 1#8)) [] .echo ∧
      40 < (cmd 0x01#8 (List.replicate 41 1#8)).params.length ∧
      Fresh (asked 0x02#8 []) (cmd 0x02#8 []) [] .identify := by
  decide +kernel

/-- StatusReportsAndClears: options 0 and 1. -/
theorem witness_status :
    ∀ o ∈ [0#8, 1#8], Fresh (asked 0x03#8 [o]) (cmd 0x03#8 [o]) [] .status ∧ 1 ≤ (cmd 0x03#8 [o]).params.length ∧
      (cmd 0x03#8 [o]).params.getD 0 0#8 = o := by
  decide +kernel

/-- PlanWriteStoresEntries: 5 entries at index 59, the last place, in a FREE bank, and an ACTIVE bank. -/
theorem witness_plan_write :
    let p := [0#8, 59#8, 5#8] ++ List.replicate 35 1#8
    let s := asked 0x10#8 p
    Fresh s (cmd 0x10#8 p) [] .planWrite ∧ (cmd 0x10#8 p).params.getD 0 0#8 = BankId.a.code ∧
      ((cmd 0x10#8 p).params.getD 1 0#8).toNat = 59 ∧ ((cmd 0x10#8 p).params.getD 2 0#8).toNat = 5 ∧ 59 + 5 ≤ 64 ∧
      3 + 7 * 5 ≤ (cmd 0x10#8 p).params.length ∧ (s.sched.bank .a).state = .free ∧
      (let u := askedUnder (sched .running .free 0) 0x10#8 p;
        Fresh u (cmd 0x10#8 p) [] .planWrite ∧ (u.sched.bank .a).state ≠ .free) := by
  decide +kernel

/-- PlanLengthAndPlanReadAnswer, PLAN_LENGTH: counts 0 and 64 in a FREE bank and an ACTIVE one. -/
theorem witness_plan_length :
    (∀ n ∈ [0#8, 64#8], Fresh (asked 0x11#8 [0#8, n]) (cmd 0x11#8 [0#8, n]) [] .planLength ∧
      2 ≤ (cmd 0x11#8 [0#8, n]).params.length ∧ (cmd 0x11#8 [0#8, n]).params.getD 0 0#8 = BankId.a.code ∧
      ((cmd 0x11#8 [0#8, n]).params.getD 1 0#8).toNat = n.toNat ∧ n.toNat ≤ 64) ∧
    (State.reset.sched.bank .a).state = .free ∧ ((sched .running .free 0).bank .a).state ≠ .free ∧
    Fresh (askedUnder (sched .running .free 0) 0x11#8 [0#8, 3#8]) (cmd 0x11#8 [0#8, 3#8]) [] .planLength := by
  decide +kernel

/-- PlanLengthAndPlanReadAnswer, PLAN_READ: index 63 with counts 0 and 1. -/
theorem witness_plan_read :
    ∀ n ∈ [0#8, 1#8], Fresh (asked 0x12#8 [1#8, 63#8, n]) (cmd 0x12#8 [1#8, 63#8, n]) [] .planRead ∧
      3 ≤ (cmd 0x12#8 [1#8, 63#8, n]).params.length ∧
      (cmd 0x12#8 [1#8, 63#8, n]).params.getD 0 0#8 = BankId.b.code ∧
      ((cmd 0x12#8 [1#8, 63#8, n]).params.getD 1 0#8).toNat = 63 ∧
      ((cmd 0x12#8 [1#8, 63#8, n]).params.getD 2 0#8).toNat = n.toNat ∧ n.toNat ≤ 5 ∧
      (n.toNat = 0 ∨ 63 + n.toNat ≤ 64) := by
  decide +kernel

/-- PlanCommitArmsAValidBank: HALTED and STOPPING; a bank that is not FREE; an invalid and a valid FREE bank. -/
theorem witness_plan_commit :
    let p := [1#8, 1#8, 255#8]
    let s (c : Sched) : State := askedUnder c 0x13#8 p
    (3 ≤ (cmd 0x13#8 p).params.length ∧ (cmd 0x13#8 p).params.getD 0 0#8 = BankId.b.code ∧
      (cmd 0x13#8 p).params.getD 1 0#8 = CommitMode.excursion.code) ∧
    (Fresh (s Sched.reset) (cmd 0x13#8 p) [] .planCommit ∧ (s Sched.reset).sched.state = .halted) ∧
    (Fresh (s (sched .stopping .free 0)) (cmd 0x13#8 p) [] .planCommit ∧
      (s (sched .stopping .free 0)).sched.state = .stopping) ∧
    (Fresh (s (sched .running .armed 0)) (cmd 0x13#8 p) [] .planCommit ∧
      ((s (sched .running .armed 0)).sched.bank .b).state ≠ .free) ∧
    (Fresh (s (sched .running .free 0)) (cmd 0x13#8 p) [] .planCommit ∧
      ((s (sched .running .free 0)).sched.bank .b).state = .free ∧
      ((s (sched .running .free 0)).sched.bank .b).planFault = none) ∧
    (let c := { sched .running .free 0 with bankB := Bank.reset };
      Fresh (s c) (cmd 0x13#8 p) [] .planCommit ∧ ((s c).sched.bank .b).state = .free ∧
        ((s c).sched.bank .b).planFault = some (.planEmpty, 255)) := by
  decide +kernel

/-- PlanWithdrawFreesAnArmedBank: a bank in each of the four states. -/
theorem witness_plan_withdraw :
    (∀ st ∈ [BankState.armed, .held, .free],
      let s := askedUnder (sched .running st 0) 0x14#8 [1#8]
      Fresh s (cmd 0x14#8 [1#8]) [] .planWithdraw ∧ 1 ≤ (cmd 0x14#8 [1#8]).params.length ∧
        (cmd 0x14#8 [1#8]).params.getD 0 0#8 = BankId.b.code ∧ (s.sched.bank .b).state = st) ∧
    (let s := askedUnder (sched .running .free 0) 0x14#8 [0#8];
      Fresh s (cmd 0x14#8 [0#8]) [] .planWithdraw ∧ (cmd 0x14#8 [0#8]).params.getD 0 0#8 = BankId.a.code ∧
        (s.sched.bank .a).state = .active) := by
  decide +kernel

/-- SchedStartRunsAValidBank: a running scheduler; a valid bank and an invalid one in HALTED. -/
theorem witness_sched_start :
    let s (c : Sched) : State := askedUnder c 0x15#8 [0#8]
    (1 ≤ (cmd 0x15#8 [0#8]).params.length ∧ (cmd 0x15#8 [0#8]).params.getD 0 0#8 = BankId.a.code) ∧
    (Fresh (s (sched .running .free 0)) (cmd 0x15#8 [0#8]) [] .schedStart ∧
      (s (sched .running .free 0)).sched.state ≠ .halted) ∧
    (let c := { Sched.reset with bankA := bankOf planP .free };
      Fresh (s c) (cmd 0x15#8 [0#8]) [] .schedStart ∧ (s c).sched.state = .halted ∧
        ((s c).sched.bank .a).planFault = none) ∧
    (Fresh (s Sched.reset) (cmd 0x15#8 [0#8]) [] .schedStart ∧ (s Sched.reset).sched.state = .halted ∧
      ((s Sched.reset).sched.bank .a).planFault = some (.planEmpty, 255)) := by
  decide +kernel

/-- SchedStopAndExcursionEndAnswer: each scheduler state. -/
theorem witness_sched_stop :
    ∀ st ∈ [SchedState.halted, .running, .excursion, .stopping],
      let c := sched st .free 0
      (Fresh (askedUnder c 0x16#8 []) (cmd 0x16#8 []) [] .schedStop ∧
        (askedUnder c 0x16#8 []).sched.state = st) ∧
      (Fresh (askedUnder c 0x17#8 []) (cmd 0x17#8 []) [] .excursionEnd ∧
        (askedUnder c 0x17#8 []).sched.state = st) := by
  decide +kernel

/-- FlowWriteReplacesARecord: the terms of record 9 under another flow ID and the join gap 255. -/
def terms9 (id : BitVec 12) : FlowTerms :=
  { record9.terms with flowId := id, joinGap := 255#8 }

/-- FlowWriteReplacesARecord: the 16 parameter bytes that write terms at index 8. -/
def flowParams (t : FlowTerms) : List Byte :=
  [BitVec.ofNat 8 (8 : FlowIndex).val, 0#4 ++ t.flowId.extractLsb' 8 4, t.flowId.extractLsb' 0 8,
    (if t.upstream then 1#8 else 0#8), BitVec.ofNat 8 t.sourcePort.val, BitVec.ofNat 8 t.cls.val,
    (match t.action with
      | .measure => 0#8
      | .demote => 1#8
      | .discard => 2#8), BitVec.ofNat 8 t.demoteClass.val, t.joinGap, t.burstLimit.extractLsb' 8 8,
    t.burstLimit.extractLsb' 0 8, t.minGap.extractLsb' 16 8, t.minGap.extractLsb' 8 8, t.minGap.extractLsb' 0 8,
    (if t.notifyEnable then 1#8 else 0#8), 0#4 ++ t.mask]

/-- FlowWriteReplacesARecord: the reserved flow IDs, the ID of record 9, and the free IDs 1 and 4094; the table has no
part in whether a command is fresh. -/
theorem witness_flow_write (r : FlowRecord) :
    ∀ id ∈ [0#12, 4095#12, 310#12, 1#12, 4094#12],
      let c := cmd 0x20#8 (flowParams (terms9 id))
      Fresh (withRecord (asked 0x20#8 (flowParams (terms9 id))) r) c [] .flowWrite ∧
        c.params.take 16 = flowParams (terms9 id) ∧ (terms9 id).joinGap ≠ 0#8 :=
  have h : ∀ id ∈ [0#12, 4095#12, 310#12, 1#12, 4094#12],
    let c := cmd 0x20#8 (flowParams (terms9 id))
    Fresh (asked 0x20#8 (flowParams (terms9 id))) c [] .flowWrite ∧
      c.params.take 16 = flowParams (terms9 id) ∧ (terms9 id).joinGap ≠ 0#8 := by decide +kernel
  fun id hid => h id hid

/-- FlowWriteReplacesARecord, writing index 8 under a table with record 9: the ID 310 is record 9's, no record carries 1. -/
theorem witness_flow_write_table :
    (terms9 0#12).flowId = 0#12 ∧ (terms9 4095#12).flowId = 4095#12 ∧ FlowLaws (table record9) ∧
      (9 : FlowIndex) ≠ 8 ∧ (table record9)[9].valid = true ∧
      (table record9)[9].terms.flowId = (terms9 310#12).flowId ∧
      (∀ j : FlowIndex, j ≠ 8 → (table record9)[j].valid = true →
        (table record9)[j].terms.flowId ≠ (terms9 1#12).flowId) :=
  ⟨rfl, rfl, laws_of_one_record (by decide) (by decide), by decide, by decide +kernel, by decide +kernel,
    by decide +kernel⟩

/-- FlowReadClearAndRearmAnswer: index 255 with both options; an invalid and a valid record. -/
theorem witness_flow_read_clear_rearm :
    (∀ o ∈ [0#8, 1#8],
      (Fresh (asked 0x21#8 [255#8, o]) (cmd 0x21#8 [255#8, o]) [] .flowRead ∧
        2 ≤ (cmd 0x21#8 [255#8, o]).params.length ∧ (cmd 0x21#8 [255#8, o]).params.getD 1 0#8 = o ∧
        (cmd 0x21#8 [255#8, o]).params.getD 0 0#8 = BitVec.ofNat 8 (255 : FlowIndex).val) ∧
      (Fresh (asked 0x23#8 [9#8, o]) (cmd 0x23#8 [9#8, o]) [] .flowRearm ∧
        2 ≤ (cmd 0x23#8 [9#8, o]).params.length ∧ ((cmd 0x23#8 [9#8, o]).params.getD 1 0#8).toNat ≤ 1 ∧
        (cmd 0x23#8 [9#8, o]).params.getD 0 0#8 = BitVec.ofNat 8 (9 : FlowIndex).val)) ∧
    (Fresh (asked 0x22#8 [0#8]) (cmd 0x22#8 [0#8]) [] .flowClear ∧ 1 ≤ (cmd 0x22#8 [0#8]).params.length) ∧
    State.reset.flows[9].valid = false ∧ (withRecord State.reset record9).flows[9].valid = true := by
  decide +kernel

/-- The queue manager has no part in whether a command is fresh. -/
theorem fresh_setQm {s : State} {c : Command} {rest : List Command} {k : CommandCode} (q : QueueManager)
    (h : Fresh s c rest k) : Fresh (s.setQm q) c rest k :=
  h

/-- ClassSetAndClassReadAnswer: limits 0 and 1 against an occupancy of 1, and the limit 512. -/
theorem witness_class_set :
    ∀ p ∈ ([[7#8, 0#8, 0#8, 7#8, 255#8, 1#8], [7#8, 0#8, 1#8, 7#8, 255#8, 1#8], [7#8, 2#8, 0#8, 7#8, 255#8, 1#8]] :
        List (List Byte)),
      Fresh ((asked 0x30#8 p).setQm (queued1 7 id)) (cmd 0x30#8 p) [] .classSet ∧ (cmd 0x30#8 p).params = p :=
  have h : ∀ p ∈ ([[7#8, 0#8, 0#8, 7#8, 255#8, 1#8], [7#8, 0#8, 1#8, 7#8, 255#8, 1#8],
      [7#8, 2#8, 0#8, 7#8, 255#8, 1#8]] : List (List Byte)),
    Fresh (asked 0x30#8 p) (cmd 0x30#8 p) [] .classSet ∧ (cmd 0x30#8 p).params = p := by decide +kernel
  fun p hp => ⟨fresh_setQm _ (h p hp).1, (h p hp).2⟩

/-- ClassSetAndClassReadAnswer: the limits those bytes spell, and the occupancy. -/
theorem witness_class_set_limits :
    [0#16, 1#16, 512#16].map (fun limit => (limit.extractLsb' 8 8, limit.extractLsb' 0 8, decide (limit.toNat ≤ 512))) =
      [(0#8, 0#8, true), (0#8, 1#8, true), (2#8, 0#8, true)] ∧
    ((0#16).toNat < (queued1 7 id).classes[7].queue.length ∧
      (queued1 7 id).classes[7].queue.length ≤ (1#16).toNat) :=
  ⟨by simp, by decide +kernel⟩

/-- ClassSetAndClassReadAnswer: both read options. -/
theorem witness_class_read :
    (∀ o ∈ [0#8, 1#8], Fresh (asked 0x31#8 [7#8, o]) (cmd 0x31#8 [7#8, o]) [] .classRead ∧
      2 ≤ (cmd 0x31#8 [7#8, o]).params.length ∧ (cmd 0x31#8 [7#8, o]).params.getD 1 0#8 = o ∧
      (cmd 0x31#8 [7#8, o]).params.getD 0 0#8 = BitVec.ofNat 8 (7 : ClassId).val) := by
  decide +kernel

/-- ClassFlushAndRelaySetAnswer: classes 0 and 7. -/
theorem witness_class_flush_relay_set :
    ∀ k ∈ [(0 : ClassId), 7],
      let b : Byte := BitVec.ofNat 8 k.val
      (Fresh (asked 0x32#8 [b]) (cmd 0x32#8 [b]) [] .classFlush ∧ (cmd 0x32#8 [b]).params.getD 0 0#8 = b ∧
        1 ≤ (cmd 0x32#8 [b]).params.length) ∧
      (Fresh (asked 0x33#8 [b]) (cmd 0x33#8 [b]) [] .relaySet ∧ (cmd 0x33#8 [b]).params.getD 0 0#8 = b) := by
  decide +kernel

/-- PortSetMovesThePort: both enable values on a port in each state, with signal and without. -/
theorem witness_port_set :
    ∀ e ∈ [true, false], ∀ st ∈ [PortState.disabled, .waiting, .active, .quarantined], ∀ signal ∈ [true, false],
      let p := [1#8, flagByte e, 8#8, flagByte true, UnknownPolicy.forward.code, 7#8]
      let s := holding (port1 st signal false) [cmd 0x40#8 p]
      Fresh s (cmd 0x40#8 p) [] .portSet ∧ 6 ≤ (cmd 0x40#8 p).params.length ∧
        (cmd 0x40#8 p).params.getD 0 0#8 = BitVec.ofNat 8 (1 : PortId).val ∧
        (cmd 0x40#8 p).params.getD 1 0#8 = flagByte e ∧ (cmd 0x40#8 p).params.getD 3 0#8 = flagByte true ∧
        (cmd 0x40#8 p).params.getD 4 0#8 = UnknownPolicy.forward.code ∧
        (cmd 0x40#8 p).params.getD 5 0#8 = BitVec.ofNat 8 (7 : ClassId).val ∧ s.ports[1].state = st ∧
        s.ports[1].signal = signal := by
  decide +kernel

/-- PortReadReportsOnePart: ports 3 and 4, both options, both parts, and a command that ends after the option. -/
theorem witness_port_read :
    ∀ x ∈ [3#8, 4#8], ∀ o ∈ [0#8, 1#8], ∀ part ∈ ([[], [0#8], [1#8]] : List (List Byte)),
      let p := [x, o] ++ part
      Fresh (asked 0x41#8 p) (cmd 0x41#8 p) [] .portRead ∧ 2 ≤ (cmd 0x41#8 p).params.length ∧
        (cmd 0x41#8 p).params.getD 0 0#8 = x ∧ ((cmd 0x41#8 p).params.getD 1 0#8).toNat ≤ 1 ∧
        (cmd 0x41#8 p).params.getD 2 0#8 = part.getD 0 0#8 := by
  decide +kernel

/-- NoticeSetAndPartResetAnswer: the bytes 00h and 7Fh. -/
theorem witness_notice_set_part_reset :
    (∀ b ∈ [0x00#8, 0x7F#8], Fresh (asked 0x50#8 [b]) (cmd 0x50#8 [b]) [] .noticeSet ∧
      1 ≤ (cmd 0x50#8 [b]).params.length ∧ ((cmd 0x50#8 [b]).params.getD 0 0#8).toNat < 128) ∧
    Fresh (asked 0x7F#8 []) (cmd 0x7F#8 []) [] .partReset := by
  decide +kernel

/-- The laws of the queues hold of a queue manager with one cell in class 7. -/
theorem laws_of_one_cell : QueueLaws (queued1 7 id) where
  partition := by
    have h : (queued1 7 id).queued = [0] := by decide +kernel
    have e : 0 :: (List.finRange 512).tail = List.finRange 512 := by decide +kernel
    have f : (queued1 7 id).free = (List.finRange 512).tail := by simp only [queued1]
    rw [f, h]
    generalize (List.finRange 512).tail = l at e
    rw [← e]
    exact List.perm_append_singleton 0 l
  limits := by decide +kernel
  ranges := by decide +kernel
  ages := by decide +kernel

/-- A slot start with one cell in class 7. -/
def slotWithOneCell : State :=
  { State.reset.setQm (queued1 7 id) with pending := [.slotStart] }

/-- EveryStepKeepsTheBufferPartition: a class with one cell, at a slot start. -/
theorem witness_queue_laws : QueueLaws slotWithOneCell.qm ∧ ∃ t, step slotWithOneCell = .next t := by
  have hq : slotWithOneCell.qm = queued1 7 id := by simp only [slotWithOneCell, State.setQm]
  have hp : slotWithOneCell.pending = [.slotStart] := by simp only [slotWithOneCell]
  refine ⟨hq ▸ laws_of_one_cell, ?_⟩
  unfold step
  rw [hp]
  exact ⟨_, rfl⟩

/-- EveryStepKeepsTheFlowTableUnique: a table with one record, at a FLOW_CLEAR. -/
theorem witness_flow_laws :
    let s := { withRecord (asked 0x22#8 [9#8]) record9 with pending := [.flowClear] }
    FlowLaws s.flows ∧ ∃ t, step s = .next t :=
  ⟨laws_of_one_record (by decide) (by decide), _, rfl⟩

/-- EveryStepKeepsTheLinkLaws: an ACTIVE port with signal and one cell in its FIFO, at a loss of signal. -/
theorem witness_link_laws :
    let s := { (port1 .active true true).updPort 1 (fun pt => { pt with egress := [Cell.idle], streak := 3#8 }) with
      pins := { Pins.reset with stationLine := updateAt Pins.reset.stationLine 1 (fun _ => true) }
      pending := [.stationSignalLost 1] }
    LinkLaws s ∧ ∃ t, step s = .next t := by
  refine ⟨⟨fun _ p => ?_, fun _ => rfl⟩, _, rfl⟩
  constructor <;> revert p <;> decide +kernel

/-- EveryStepKeepsTheManagementLaws: 4 commands, 7 records and 16 notices waiting, and a valid cache. -/
theorem witness_management_laws :
    let n := Notice.resetDone 0#8 .powerOn
    let s := { State.reset with
      me := { State.reset.me with
        commands := List.replicate 4 (cmd 1#8 []), responses := List.replicate 7 response
        cache := some { seq := 0#8, record := response } }
      nu := { State.reset.nu with queue := List.replicate 16 n }
      pending := [.echo] }
    ManagementLaws s ∧ ∃ t, step s = .next t := by
  refine ⟨⟨by decide +kernel, by decide +kernel, by decide +kernel, by decide +kernel, fun e h => ?_,
    by decide +kernel, by decide +kernel⟩, _, rfl⟩
  cases h
  exact ⟨rfl, rfl, by decide⟩

end Sys2Proof.Tests
end

section
/-! PROOFS. Two shapes of argument that many statements share: a property that every row keeps is kept by every step,
and a fresh command is answered by its owner (R145 to R149). -/

namespace Sys2Proof.Machine

open Sys2Proof.Claims

/-! ### The step -/

/-- A property of the part that the queue of waiting rows has no share in, kept by every row, is kept by every step. -/
theorem step_keeps {P : State → Prop} (hqueue : ∀ s rest, P s → P { s with pending := rest })
    (hexec : ∀ i s t, P s → exec i s = .next t → P t) {s t : State} (hs : P s) (h : step s = .next t) : P t := by
  unfold step at h
  split at h
  · cases h; exact hs
  · exact hexec _ _ _ (hqueue s _ hs) h

/-! ### A fresh command and its answer (R145 to R149) -/

section Fresh

variable {s : State} {c : Command} {rest : List Command} {k : CommandCode}

/-- R145: the part whose engine has taken its oldest command. -/
def State.taken (s : State) (rest : List Command) : State :=
  s.setMe { s.me with commands := rest }

/-- R145 to R149: a fresh command is answered by its owner, on the part that has taken it. -/
theorem State.takeCommand_eq_answer {run : List Byte → State → State × Answer} (h : Fresh s c rest k) :
    s.takeCommand (some k) run =
      (run c.params (s.taken rest)).1.answer c (run c.params (s.taken rest)).2 := by
  obtain ⟨⟨hphase, hrun, hplaces, hcommands⟩, hlen, hcode, hseq⟩ := h
  exact State.takeCommand_of_fresh (State.mayTake_iff.mpr ⟨hphase, hrun, hplaces⟩) hcommands
    (Command.row_eq_some.mpr ⟨hlen, hcode⟩) hlen hseq

/-- R147, R151: a refusal, or a report, leaves the part alone but for the engine. -/
theorem State.takeCommand_eq_refused {run : List Byte → State → State × Answer} {a : Answer} (h : Fresh s c rest k)
    (hrun : run c.params (s.taken rest) = (s.taken rest, a)) :
    s.takeCommand (some k) run = refused s c rest a.status a.detail a.data := by
  rw [State.takeCommand_eq_answer h, hrun]
  rfl

/-- R148, R149: an answer after an effect on the scheduler alone, with the cycle number that it leaves. -/
theorem State.takeCommand_eq_setSched {run : List Byte → State → State × Answer} {d : Sched} {a : Answer}
    {cycle : Word32} (h : Fresh s c rest k) (hrun : run c.params (s.taken rest) = ((s.taken rest).setSched d, a))
    (hcycle : d.cycle = cycle) :
    s.takeCommand (some k) run =
      { s with sched := d, me := engineAfter s c rest cycle a.status a.detail a.data } := by
  rw [State.takeCommand_eq_answer h, hrun, ← hcycle]
  rfl

end Fresh

end Sys2Proof.Machine
end

section
/-! PROOFS. Window plans (R2 to R8): where the open slots of an entry lie, how the spans tile the cycle, and what
validation answers. -/

namespace Sys2Proof.Machine

open Sys2Proof.Claims

/-! ### The open slots of one entry (R2, R4) -/

theorem WindowEntry.isOpen_iff (e : WindowEntry) (off : Nat) :
    e.isOpen off = true ↔ e.offset ≤ off ∧ off < e.offset + e.openLen.toNat := by
  simp [WindowEntry.isOpen]

/-- R2: the three alignments place the open slots within the span. -/
theorem WindowEntry.offset_add_openLen_le {e : WindowEntry} (h : e.openLen.toNat ≤ e.span.toNat) :
    e.offset + e.openLen.toNat ≤ e.span.toNat := by
  unfold WindowEntry.offset
  split
  · omega
  · split <;> omega

theorem WindowEntry.lt_span_of_isOpen {e : WindowEntry} {off : Nat} (h : e.openLen.toNat ≤ e.span.toNat)
    (ho : e.isOpen off = true) : off < e.span.toNat := by
  have hend := WindowEntry.offset_add_openLen_le h
  rw [WindowEntry.isOpen_iff] at ho
  omega

/-- R4: with an owner that names a class or the management, a slot is a window slot exactly when it is open. -/
theorem WindowEntry.slotKind_ne_free_iff {e : WindowEntry} (ho : e.owner.toNat ≤ 8) (off : Nat) :
    e.slotKind off ≠ .free ↔ e.isOpen off = true := by
  unfold WindowEntry.slotKind
  by_cases hopen : e.isOpen off = true
  · by_cases hc : e.owner.toNat < 8
    · simp [hopen, hc]
    · have hm : e.owner = 8#8 := BitVec.eq_of_toNat_eq (by simp; omega)
      simp [hopen, hm]
  · simp [hopen]

/-- R4: an open slot of a management window. -/
theorem WindowEntry.slotKind_of_management {e : WindowEntry} {off : Nat} (ho : e.isOpen off = true)
    (hm : e.owner = 8#8) : e.slotKind off = .managementWindow e.reclaim := by
  simp [WindowEntry.slotKind, ho, hm]

theorem WindowEntry.slotKind_of_not_isOpen {e : WindowEntry} {off : Nat} (ho : ¬ e.isOpen off = true) :
    e.slotKind off = .free := by
  simp [WindowEntry.slotKind, ho]

/-- R2: an entry whose open length is below its span has a slot that is not open. -/
theorem WindowEntry.exists_not_isOpen {e : WindowEntry} (h : e.openLen.toNat < e.span.toNat) :
    ∃ off, off < e.span.toNat ∧ ¬ e.isOpen off = true := by
  by_cases h0 : e.offset = 0
  · exact ⟨e.openLen.toNat, h, by rw [WindowEntry.isOpen_iff]; omega⟩
  · exact ⟨0, by omega, by rw [WindowEntry.isOpen_iff]; omega⟩

/-- R8: a management-capable entry has such a slot within its span. -/
theorem WindowEntry.exists_slot_of_managementCapable {e : WindowEntry} (hl : e.openLen.toNat ≤ e.span.toNat)
    (h : e.managementCapable = true) :
    ∃ off, off < e.span.toNat ∧ (e.slotKind off = .free ∨ e.slotKind off = .managementWindow e.reclaim) := by
  simp only [WindowEntry.managementCapable, Bool.or_eq_true, Bool.and_eq_true, decide_eq_true_eq, beq_iff_eq] at h
  rcases h with hlt | ⟨hm, hpos⟩
  · obtain ⟨off, hoff, hno⟩ := WindowEntry.exists_not_isOpen hlt
    exact ⟨off, hoff, .inl (WindowEntry.slotKind_of_not_isOpen hno)⟩
  · have ho : e.isOpen e.offset = true := (e.isOpen_iff _).mpr (by omega)
    exact ⟨e.offset, WindowEntry.lt_span_of_isOpen hl ho, .inr (WindowEntry.slotKind_of_management ho hm)⟩

/-- Settles O9: the offset is computed from the alignment, and the open interval that begins there ends within the
span. -/
theorem alignmentPlacesTheOpenSlots : Obligations.AlignmentPlacesTheOpenSlots := by
  intro e hl _
  refine ⟨fun h => by simp [WindowEntry.offset, h], fun h => by simp [WindowEntry.offset, h],
    fun h => by simp [WindowEntry.offset, h], e.isOpen_iff, fun off => WindowEntry.lt_span_of_isOpen hl, ?_, ?_⟩
  · intro h0 off
    have : e.openLen.toNat = 0 := by simp [h0]
    rw [Bool.eq_false_iff, Ne, WindowEntry.isOpen_iff]
    omega
  · intro heq
    have hend := WindowEntry.offset_add_openLen_le hl
    rw [heq] at hend
    omega

/-! ### The tiling of the cycle (R3, R4, R5) -/

@[simp] theorem planLength_nil : planLength [] = 0 := rfl

@[simp] theorem planLength_cons (e : WindowEntry) (es : List WindowEntry) :
    planLength (e :: es) = e.span.toNat + planLength es := by
  simp [planLength]

@[simp] theorem planLength_append (es fs : List WindowEntry) :
    planLength (es ++ fs) = planLength es + planLength fs := by
  simp [planLength]

theorem slotKindAt_cons_of_lt {e : WindowEntry} {es : List WindowEntry} {pos : Nat} (h : pos < e.span.toNat) :
    slotKindAt (e :: es) pos = e.slotKind pos := by
  simp [slotKindAt, h]

@[simp] theorem slotKindAt_cons_add (e : WindowEntry) (es : List WindowEntry) (pos : Nat) :
    slotKindAt (e :: es) (e.span.toNat + pos) = slotKindAt es pos := by
  simp [slotKindAt]

/-- R3: a position beyond the first spans is a position of the entries after them. -/
theorem slotKindAt_append_add (before es : List WindowEntry) (pos : Nat) :
    slotKindAt (before ++ es) (planLength before + pos) = slotKindAt es pos := by
  induction before with
  | nil => simp
  | cons e before ih => simp [Nat.add_assoc, ih]

/-- R3, R4: the position at an offset within an entry's span. -/
theorem slotKindAt_of_offset (before after : List WindowEntry) {e : WindowEntry} {off : Nat}
    (h : off < e.span.toNat) : slotKindAt (before ++ e :: after) (planLength before + off) = e.slotKind off := by
  rw [slotKindAt_append_add, slotKindAt_cons_of_lt h]

/-- Settles O10, by the tiling lemma, an induction over the entries before. -/
theorem spansTileTheCycle : Obligations.SpansTileTheCycle :=
  fun before after _ _ h => slotKindAt_of_offset before after h

/-- The positions below `n` that lie in an interval. -/
theorem countP_range_interval (a b n : Nat) :
    (List.range n).countP (fun p => decide (a ≤ p ∧ p < b)) = min n b - min n a := by
  induction n with
  | zero => simp
  | succ n ih =>
    rw [List.range_succ, List.countP_append, ih, List.countP_singleton]
    by_cases h : a ≤ n ∧ n < b <;> simp [h] <;> omega

/-- R5: the span of an entry that fits holds as many window slots as its open length. -/
theorem WindowEntry.countP_window {e : WindowEntry} (h : EntryFits e) :
    (List.range e.span.toNat).countP (fun p => decide (e.slotKind p ≠ .free)) = e.openLen.toNat := by
  obtain ⟨-, hl, ho, -⟩ := h
  have hend := WindowEntry.offset_add_openLen_le hl
  simp only [WindowEntry.slotKind_ne_free_iff ho, WindowEntry.isOpen_iff]
  rw [countP_range_interval]
  omega

/-- R5: the window slots of a cycle, summed span by span. -/
theorem countP_window_eq_sum {es : List WindowEntry} (h : ∀ e ∈ es, EntryFits e) :
    (List.range (planLength es)).countP (fun p => decide (slotKindAt es p ≠ .free)) =
      (es.map (fun e => e.openLen.toNat)).sum := by
  induction es with
  | nil => simp
  | cons e es ih =>
    have hhead : (List.range e.span.toNat).countP (fun p => decide (slotKindAt (e :: es) p ≠ .free)) =
        e.openLen.toNat := by
      rw [← WindowEntry.countP_window (h e List.mem_cons_self)]
      exact List.countP_congr fun p hp => by rw [slotKindAt_cons_of_lt (List.mem_range.mp hp)]
    have htail := ih fun x hx => h x (List.mem_cons_of_mem e hx)
    rw [planLength_cons, List.range_add, List.countP_append, hhead, List.countP_map]
    simp only [Function.comp_def, slotKindAt_cons_add, htail, List.map_cons, List.sum_cons]

/-! ### Validation (R7) -/

/-- R7: an entry passes checks 2a to 2d exactly when it fits. -/
theorem WindowEntry.fault_eq_none_iff {e : WindowEntry} : e.fault = none ↔ EntryFits e := by
  by_cases hspan : 1 ≤ e.span.toNat ∧ e.span.toNat ≤ 1024
  · by_cases hopen : e.openLen.toNat ≤ e.span.toNat
    · by_cases howner : e.owner.toNat ≤ 8
      · simp [WindowEntry.fault, hspan, hopen, howner, EntryFits]
      · simp [WindowEntry.fault, hspan, hopen, howner]
    · simp [WindowEntry.fault, hspan, hopen]
  · simp [WindowEntry.fault, hspan]

/-- R7: entries that fit are passed over, and the index counts them. -/
theorem firstEntryFault_append {before : List WindowEntry} (h : ∀ x ∈ before, EntryFits x) (es : List WindowEntry)
    (i : Nat) : firstEntryFault (before ++ es) i = firstEntryFault es (i + before.length) := by
  induction before generalizing i with
  | nil => rfl
  | cons x before ih =>
    have hx : x.fault = none := WindowEntry.fault_eq_none_iff.mpr (h x List.mem_cons_self)
    simp only [List.cons_append, firstEntryFault, hx, List.length_cons]
    rw [ih fun y hy => h y (List.mem_cons_of_mem x hy)]
    congr 1
    omega

theorem firstEntryFault_cons_of_fault {e : WindowEntry} {f : PlanFault} (h : e.fault = some f) (es : List WindowEntry)
    (i : Nat) : firstEntryFault (e :: es) i = some (f, i) := by
  simp [firstEntryFault, h]

/-- R7: no entry is reported exactly when every entry fits. -/
theorem firstEntryFault_eq_none_iff {es : List WindowEntry} {i : Nat} :
    firstEntryFault es i = none ↔ ∀ e ∈ es, EntryFits e := by
  induction es generalizing i with
  | nil => simp [firstEntryFault]
  | cons e es ih =>
    rw [List.forall_mem_cons, ← WindowEntry.fault_eq_none_iff, ← ih (i := i + 1)]
    cases he : e.fault <;> simp [firstEntryFault, he]

/-- R8: an entry that fits is management-capable exactly when it is not all open for a class. -/
theorem WindowEntry.managementCapable_iff {e : WindowEntry} (h : EntryFits e) :
    e.managementCapable = true ↔ e.openLen ≠ e.span ∨ e.owner = 8#8 := by
  obtain ⟨⟨hspan, -⟩, hl, -, -⟩ := h
  have hne : e.openLen ≠ e.span ↔ e.openLen.toNat < e.span.toNat := by
    rw [Ne, BitVec.toNat_inj.symm]; omega
  simp only [WindowEntry.managementCapable, Bool.or_eq_true, Bool.and_eq_true, decide_eq_true_eq, beq_iff_eq, hne]
  by_cases hm : e.owner = 8#8
  · simp [hm]; omega
  · simp [hm]

section Validation

variable {b : Bank}

/-- R7, check 1. -/
theorem Bank.planFault_of_count (h : ¬ (1 ≤ b.count ∧ b.count ≤ 64)) : b.planFault = some (.planEmpty, 255) :=
  if_pos h

/-- R7, checks 2a to 2d: the first failing entry decides. -/
theorem Bank.planFault_of_entry (hc : 1 ≤ b.count ∧ b.count ≤ 64) {before after : List WindowEntry} {e : WindowEntry}
    (hp : b.plan = before ++ e :: after) (hb : ∀ x ∈ before, EntryFits x) {f : PlanFault} (hf : e.fault = some f) :
    b.planFault = some (f, before.length) := by
  have hfirst : firstEntryFault b.plan 0 = some (f, before.length) := by
    rw [hp, firstEntryFault_append hb, firstEntryFault_cons_of_fault hf, Nat.zero_add]
  simp [Bank.planFault, hc, hfirst]

/-- R7, checks 3 and 4: what validation answers once every entry fits. -/
theorem Bank.planFault_of_fits (hc : 1 ≤ b.count ∧ b.count ≤ 64) (hf : ∀ e ∈ b.plan, EntryFits e) :
    b.planFault =
      if ¬ (8 ≤ b.cycleLength ∧ b.cycleLength ≤ 16384) then some (.cycleRange, 255)
      else if b.plan.any WindowEntry.managementCapable then none else some (.noManagementSlot, 255) := by
  have hfirst : firstEntryFault b.plan 0 = none := firstEntryFault_eq_none_iff.mpr hf
  simp [Bank.planFault, hc, hfirst]

/-- R7, R8: what a valid plan is. -/
theorem Bank.planFault_eq_none_iff :
    b.planFault = none ↔ (1 ≤ b.count ∧ b.count ≤ 64) ∧ (∀ e ∈ b.plan, EntryFits e) ∧
      (8 ≤ b.cycleLength ∧ b.cycleLength ≤ 16384) ∧ ∃ e ∈ b.plan, e.managementCapable = true := by
  by_cases hc : 1 ≤ b.count ∧ b.count ≤ 64
  · by_cases hf : ∀ e ∈ b.plan, EntryFits e
    · rw [Bank.planFault_of_fits hc hf]
      by_cases hl : 8 ≤ b.cycleLength ∧ b.cycleLength ≤ 16384
      · by_cases hm : ∃ e ∈ b.plan, e.managementCapable = true
        · simpa [hc, hl, hm] using hf
        · simp [hl, hm]
      · simp [hl]
    · have hne : firstEntryFault b.plan 0 ≠ none := fun h => hf (firstEntryFault_eq_none_iff.mp h)
      obtain ⟨f, hfirst⟩ := Option.ne_none_iff_exists'.mp hne
      simp [Bank.planFault, hc, hfirst, hf]
  · simp [Bank.planFault_of_count hc, hc]

/-- R3: a valid plan has a cycle of at least one slot. -/
theorem Bank.cycleLength_pos_of_valid (h : b.planFault = none) : 0 < b.cycleLength := by
  obtain ⟨-, -, ⟨hl, -⟩, -⟩ := Bank.planFault_eq_none_iff.mp h
  omega

/-- R8: the cycle of a valid plan has a management-capable slot. -/
theorem Bank.exists_managementCapable_slot (h : b.planFault = none) :
    ∃ p, p < b.cycleLength ∧
      (slotKindAt b.plan p = .free ∨ ∃ reclaim, slotKindAt b.plan p = .managementWindow reclaim) := by
  obtain ⟨-, hfits, -, e, he, hcap⟩ := Bank.planFault_eq_none_iff.mp h
  obtain ⟨-, hl, -, -⟩ := hfits e he
  obtain ⟨off, hoff, hkind⟩ := WindowEntry.exists_slot_of_managementCapable hl hcap
  obtain ⟨before, after, hplan⟩ := List.append_of_mem he
  refine ⟨planLength before + off, ?_, ?_⟩
  · rw [Bank.cycleLength, hplan, planLength_append, planLength_cons]; omega
  · rw [hplan, slotKindAt_of_offset before after hoff]
    exact hkind.imp_right fun hm => ⟨_, hm⟩

end Validation

/-- Settles O11: the window slots summed span by span, and the free slots are the rest of the cycle. -/
theorem windowSlotsAreTheSumOfTheOpenLengths : Obligations.WindowSlotsAreTheSumOfTheOpenLengths := by
  intro bk hvalid
  obtain ⟨-, hfits, -, -⟩ := Bank.planFault_eq_none_iff.mp hvalid
  have hwindow : (List.range bk.cycleLength).countP (fun p => decide (slotKindAt bk.plan p ≠ .free)) = _ :=
    countP_window_eq_sum hfits
  have hall := List.length_eq_countP_add_countP (fun p => decide (slotKindAt bk.plan p = .free))
    (l := List.range bk.cycleLength)
  simp only [← List.countP_eq_length_filter]
  simp only [List.length_range, decide_eq_true_eq] at hall
  refine ⟨hwindow, ?_⟩
  change _ = _ + (List.range bk.cycleLength).countP (fun p => decide (slotKindAt bk.plan p ≠ .free)) at hall
  omega

/-- Settles O12: each clause is one branch of validation, taken with the checks before it passed. -/
theorem validationMakesItsChecksInOrder : Obligations.ValidationMakesItsChecksInOrder := by
  intro bk
  refine ⟨Bank.planFault_of_count, fun hc => ⟨fun before after e hp hb => ?_, fun hfits => ?_⟩, rfl⟩
  · have hentry {f : PlanFault} (hf : e.fault = some f) := Bank.planFault_of_entry hc hp hb hf
    refine ⟨fun hspan => hentry ?_, fun hspan => ⟨fun hopen => hentry ?_, fun hopen => ⟨fun howner => hentry ?_,
      fun howner halign => hentry ?_⟩⟩⟩
    · exact if_pos hspan
    · simp [WindowEntry.fault, hspan, hopen]
    · simp [WindowEntry.fault, hspan, hopen, howner]
    · simp [WindowEntry.fault, hspan, hopen, howner, halign]
  · have hrest := Bank.planFault_of_fits hc hfits
    refine ⟨fun hcycle => hrest.trans (if_pos hcycle), fun hcycle => ?_⟩
    have hlast := hrest.trans (if_neg (not_not.mpr hcycle))
    refine ⟨fun hfull => hlast.trans (if_neg ?_), fun hsome => hlast.trans (if_pos ?_)⟩
    · rw [List.any_eq_true]
      rintro ⟨e, he, hcap⟩
      rw [WindowEntry.managementCapable_iff (hfits e he)] at hcap
      obtain ⟨hopen, howner⟩ := hfull e he
      exact hcap.elim (fun h => h hopen) howner
    · obtain ⟨e, he, hcap⟩ := hsome
      exact List.any_eq_true.mpr ⟨e, he, (WindowEntry.managementCapable_iff (hfits e he)).mpr hcap⟩

end Sys2Proof.Machine
end

section
/-! PROOFS. The laws of the scheduler (R12, R19, R23, R26, R33): the two forms in which they are used, and one lemma for
each operation that changes the scheduler. -/

namespace Sys2Proof.Machine

/-! ### The two banks (R10) -/

/-- The bank that a bank is not. -/
def BankId.other : BankId → BankId
  | .a => .b
  | .b => .a

@[simp] theorem BankId.ne_other (i : BankId) : i ≠ i.other := by
  cases i <;> decide

@[simp] theorem BankId.other_other (i : BankId) : i.other.other = i := by
  cases i <;> rfl

theorem BankId.eq_other_of_ne : ∀ {i j : BankId}, j ≠ i → j = i.other
  | .a, .a, h => absurd rfl h
  | .a, .b, _ => rfl
  | .b, .a, _ => rfl
  | .b, .b, h => absurd rfl h

/-- R10: what holds of a bank and of the other holds of both. -/
theorem BankId.forall_iff {P : BankId → Prop} (i : BankId) : (∀ j, P j) ↔ P i ∧ P i.other := by
  refine ⟨fun h => ⟨h i, h i.other⟩, fun ⟨hi, ho⟩ j => ?_⟩
  by_cases hj : j = i
  · exact hj ▸ hi
  · exact BankId.eq_other_of_ne hj ▸ ho

@[simp] theorem Sched.bank_setBank_self (c : Sched) (i : BankId) (b : Bank) : (c.setBank i b).bank i = b := by
  cases i <;> rfl

@[simp] theorem Sched.bank_setBank_other (c : Sched) (i : BankId) (b : Bank) :
    (c.setBank i b).bank i.other = c.bank i.other := by
  cases i <;> rfl

@[simp] theorem Sched.bank_setBank_of_other (c : Sched) (i : BankId) (b : Bank) :
    (c.setBank i.other b).bank i = c.bank i := by
  cases i <;> rfl

/-- Replacing a bank leaves every other field of the scheduler. -/
theorem Sched.setBank_eq (c : Sched) (i : BankId) (b : Bank) :
    c.setBank i b = { c with bankA := (c.setBank i b).bankA, bankB := (c.setBank i b).bankB } := by
  cases i <;> rfl

/-- R25: a change of every bank's state leaves their contents. -/
@[simp] theorem Sched.bank_mapStates (c : Sched) (f : BankState → BankState) (i : BankId) :
    (c.mapStates f).bank i = { c.bank i with state := f (c.bank i).state } := by
  cases i <;> rfl

theorem Sched.bank_state_of_bankIn {c : Sched} {st : BankState} {i : BankId} (h : c.bankIn st = some i) :
    (c.bank i).state = st := by
  unfold Sched.bankIn at h
  split_ifs at h with ha hb
  · cases h; exact ha
  · cases h; exact hb

/-- R12, R40: the bank in a state that the other bank is not in. -/
theorem Sched.bankIn_of_state {c : Sched} {st : BankState} {i : BankId} (h : (c.bank i).state = st)
    (ho : (c.bank i.other).state ≠ st) : c.bankIn st = some i := by
  cases i
  · exact if_pos h
  · exact (if_neg ho).trans (if_pos h)

/-! ### The laws by role -/

/-- The laws of a HALTED scheduler, in which both banks are FREE. -/
structure Sched.Halts (c : Sched) : Prop where
  state : c.state = .halted
  active : c.active = none
  free : ∀ j, (c.bank j).state = .free
  counts : ∀ j, (c.bank j).count ≤ 64
  position : c.position = 0
  startPending : c.startPending = false
  commit : c.commit = none
  left : c.excursionLeft = 0#8
  request : c.endRequested = false
  cut : c.stopFromExcursion = false

/-- The laws of a scheduler whose active bank is `i`, holding `x`; the other bank `y` is the one that may be ARMED or
HELD. -/
structure Sched.Runs (c : Sched) (i : BankId) (x y : Bank) : Prop where
  active : c.active = some i
  bank : c.bank i = x
  other : c.bank i.other = y
  here : x.state = .active
  pair : pairAllowed c.state .active y.state = true
  valid : x.planFault = none
  otherValid : y.state ≠ .free → y.planFault = none
  count : x.count ≤ 64
  otherCount : y.count ≤ 64
  position : c.position < x.cycleLength
  pending : c.startPending = true → c.position = 0
  commit : c.commit.isSome = true ↔ y.state = .armed
  left : c.excursionLeft ≠ 0#8 → y.state = .held
  request : c.endRequested = true → y.state = .held
  cut : c.stopFromExcursion = true ↔ c.state = .stopping ∧ y.state = .held

/-- R12: beside an ACTIVE bank. -/
theorem pairAllowed_active_iff {st : SchedState} {o : BankState} :
    pairAllowed st .active o = true ↔
      (st = .running ∧ (o = .free ∨ o = .armed)) ∨ (st = .excursion ∧ o = .held) ∨ (st = .stopping ∧ o ≠ .active) := by
  cases st <;> cases o <;> decide

/-- R12: a HALTED scheduler has two FREE banks. -/
theorem pairAllowed_halted_iff {x y : BankState} : pairAllowed .halted x y = true ↔ x = .free ∧ y = .free := by
  cases x <;> cases y <;> decide

/-- R12: any other scheduler has its first bank ACTIVE. -/
theorem active_of_pairAllowed {st : SchedState} {x y : BankState} (hs : st ≠ .halted)
    (h : pairAllowed st x y = true) : x = .active := by
  revert hs h
  cases st <;> cases x <;> cases y <;> decide

theorem Sched.activeLength_of_active {c : Sched} {i : BankId} (h : c.active = some i) :
    c.activeLength = (c.bank i).cycleLength := by
  simp [Sched.activeLength, h]

/-- R12: the pair law, one bank named. -/
theorem SchedLaws.exists_pair {c : Sched} (h : SchedLaws c) :
    ∃ i, pairAllowed c.state (c.bank i).state (c.bank i.other).state = true :=
  h.pair.elim (fun hp => ⟨.a, hp⟩) (fun hp => ⟨.b, hp⟩)

theorem Sched.Halts.laws {c : Sched} (h : c.Halts) : SchedLaws c where
  pair := .inl (by
    rw [h.state]
    exact pairAllowed_halted_iff.mpr ⟨h.free .a, h.free .b⟩)
  active i := by simp [h.active, h.free i]
  contents i hi := absurd (h.free i) hi
  counts := h.counts
  position hs := absurd h.state hs
  halted _ := ⟨h.position, h.startPending⟩
  pending _ := h.position
  commit := by simp [h.commit, h.free]
  left hl := absurd h.left hl
  request hr := by simp [h.request] at hr
  cut := by simp [h.cut, h.state]

namespace Sched.Runs

variable {c : Sched} {i : BankId} {x y : Bank}

theorem other_ne_active (h : c.Runs i x y) : y.state ≠ .active := by
  rcases pairAllowed_active_iff.mp h.pair with ⟨-, h1 | h1⟩ | ⟨-, h1⟩ | ⟨-, h1⟩
  · simp [h1]
  · simp [h1]
  · simp [h1]
  · exact h1

theorem not_halted (h : c.Runs i x y) : c.state ≠ .halted := by
  rcases pairAllowed_active_iff.mp h.pair with ⟨h1, -⟩ | ⟨h1, -⟩ | ⟨h1, -⟩ <;> simp [h1]

/-- A bank that is not ACTIVE is the other bank. -/
theorem eq_other (h : c.Runs i x y) {j : BankId} (hj : (c.bank j).state ≠ .active) : j = i.other :=
  BankId.eq_other_of_ne fun e => hj (by rw [e, h.bank, h.here])

/-- A bank in a state other than ACTIVE can only be the other bank. -/
theorem exists_state_iff (h : c.Runs i x y) {st : BankState} (hst : st ≠ .active) :
    (∃ j, (c.bank j).state = st) ↔ y.state = st := by
  rw [← h.other]
  refine ⟨fun ⟨j, hj⟩ => ?_, fun ho => ⟨i.other, ho⟩⟩
  rw [← h.eq_other (j := j) (by rw [hj]; exact hst), hj]

/-- In RUNNING the other bank is FREE or ARMED. -/
theorem other_of_running (h : c.Runs i x y) (hs : c.state = .running) : y.state = .free ∨ y.state = .armed := by
  simpa [hs] using pairAllowed_active_iff.mp h.pair

/-- In EXCURSION the other bank is HELD. -/
theorem other_of_excursion (h : c.Runs i x y) (hs : c.state = .excursion) : y.state = .held := by
  simpa [hs] using pairAllowed_active_iff.mp h.pair

/-- R26: with no HELD bank, no cycle is left, no end is requested and no excursion was cut. -/
theorem of_not_held (h : c.Runs i x y) (ho : y.state ≠ .held) :
    c.excursionLeft = 0#8 ∧ c.endRequested = false ∧ c.stopFromExcursion = false := by
  refine ⟨by_contra fun hl => ho (h.left hl), ?_, ?_⟩
  · exact Bool.eq_false_iff.mpr fun hr => ho (h.request hr)
  · exact Bool.eq_false_iff.mpr fun hc => ho (h.cut.mp hc).2

/-- R26: only a STOPPING scheduler marks a cut excursion. -/
theorem cut_eq_false (h : c.Runs i x y) (hs : c.state ≠ .stopping) : c.stopFromExcursion = false :=
  Bool.eq_false_iff.mpr fun hc => hs (h.cut.mp hc).1

/-- R33: with no ARMED bank there is no commit record. -/
theorem commit_eq_none (h : c.Runs i x y) (ho : y.state ≠ .armed) : c.commit = none := by
  rw [← Option.not_isSome_iff_eq_none, h.commit]
  exact ho

theorem laws (h : c.Runs i x y) : SchedLaws c where
  pair := by
    have hp : pairAllowed c.state (c.bank i).state (c.bank i.other).state = true := by
      rw [h.bank, h.other, h.here]; exact h.pair
    cases i
    · exact .inl hp
    · exact .inr hp
  active := by
    rw [BankId.forall_iff i]
    simp [h.active, h.bank, h.other, h.here, h.other_ne_active]
  contents := (BankId.forall_iff i).mpr ⟨fun _ => h.bank ▸ h.valid, h.other ▸ h.otherValid⟩
  counts := (BankId.forall_iff i).mpr ⟨h.bank ▸ h.count, h.other ▸ h.otherCount⟩
  position _ := by
    rw [Sched.activeLength_of_active h.active, h.bank]
    exact h.position
  halted hs := absurd hs h.not_halted
  pending := h.pending
  commit := h.commit.trans (h.exists_state_iff (by decide)).symm
  left hl := (h.exists_state_iff (by decide)).mpr (h.left hl)
  request hr := (h.exists_state_iff (by decide)).mpr (h.request hr)
  cut := h.cut.trans (and_congr_right' (h.exists_state_iff (by decide)).symm)

end Sched.Runs

namespace SchedLaws

variable {c : Sched}

theorem halts (h : SchedLaws c) (hs : c.state = .halted) : c.Halts := by
  obtain ⟨i, hp⟩ := h.exists_pair
  rw [hs] at hp
  have hfree : ∀ j, (c.bank j).state = .free := (BankId.forall_iff i).mpr (pairAllowed_halted_iff.mp hp)
  obtain ⟨hpos, hpend⟩ := h.halted hs
  exact {
    state := hs
    active := Option.eq_none_iff_forall_ne_some.mpr fun j hj => by simpa [hfree] using (h.active j).mp hj
    free := hfree
    counts := h.counts
    position := hpos
    startPending := hpend
    commit := by simpa [hfree] using h.commit
    left := by_contra fun hl => by simpa [hfree] using h.left hl
    request := by simpa [hfree] using h.request
    cut := by simpa [hfree] using h.cut }

theorem runs (h : SchedLaws c) (hs : c.state ≠ .halted) : ∃ i x y, c.Runs i x y := by
  obtain ⟨i, hp⟩ := h.exists_pair
  have hi : (c.bank i).state = .active := active_of_pairAllowed hs hp
  rw [hi] at hp
  have hact := (h.active i).mpr hi
  have hex {st : BankState} (hst : st ≠ .active) : (∃ j, (c.bank j).state = st) → (c.bank i.other).state = st := by
    rintro ⟨j, hj⟩
    rwa [BankId.eq_other_of_ne fun e : j = i => hst (by rw [← hj, e, hi])] at hj
  exact ⟨i, c.bank i, c.bank i.other, {
    active := hact
    bank := rfl
    other := rfl
    here := hi
    pair := hp
    valid := h.contents i (by simp [hi])
    otherValid := h.contents i.other
    count := h.counts i
    otherCount := h.counts i.other
    position := Sched.activeLength_of_active hact ▸ h.position hs
    pending := h.pending
    commit := h.commit.trans ⟨hex (by decide), fun ho => ⟨_, ho⟩⟩
    left := fun hl => hex (by decide) (h.left hl)
    request := fun hr => hex (by decide) (h.request hr)
    cut := h.cut.trans (and_congr_right' ⟨hex (by decide), fun ho => ⟨_, ho⟩⟩) }⟩

/-- The laws of a scheduler, by role: it is HALTED, or one bank is the active one. -/
theorem halts_or_runs (h : SchedLaws c) : c.Halts ∨ ∃ i x y, c.Runs i x y := by
  by_cases hs : c.state = .halted
  · exact .inl (h.halts hs)
  · exact .inr (h.runs hs)

end SchedLaws

/-- R20: the scheduler after any reset is HALTED. -/
theorem Sched.Halts.reset : Sched.reset.Halts where
  state := rfl
  active := rfl
  free j := by cases j <;> rfl
  counts j := by cases j <;> exact Nat.zero_le 64
  position := rfl
  startPending := rfl
  commit := rfl
  left := rfl
  request := rfl
  cut := rfl

/-- R20: the laws hold after any reset. -/
theorem SchedLaws.reset : SchedLaws Sched.reset :=
  Sched.Halts.reset.laws

/-- Settles O13: the active bank's plan is valid, and a valid plan has such a slot. -/
theorem everyCycleHasAManagementCapableSlot : Obligations.EveryCycleHasAManagementCapableSlot := by
  intro c hlaws hs
  obtain ⟨i, x, y, hr⟩ := hlaws.runs hs
  exact ⟨i, hr.active, Bank.exists_managementCapable_slot (hr.bank ▸ hr.valid)⟩

/-! ### The commands (R14, R15, R29 to R38) -/

/-- R14, R15: a FREE bank that is rewritten and stays FREE. -/
theorem SchedLaws.after_setBank_free {c : Sched} (h : SchedLaws c) {j : BankId} (hj : (c.bank j).state = .free)
    {b : Bank} (hb : b.state = .free) (hcount : b.count ≤ 64) : SchedLaws (c.setBank j b) := by
  rcases h.halts_or_runs with hh | ⟨i, x, y, hr⟩
  · have hhalts : (c.setBank j b).Halts := by
      rw [Sched.setBank_eq]
      exact { hh with
        free := (BankId.forall_iff j).mpr
          ⟨(congrArg Bank.state (c.bank_setBank_self j b)).trans hb,
            (congrArg Bank.state (c.bank_setBank_other j b)).trans (hh.free j.other)⟩
        counts := (BankId.forall_iff j).mpr
          ⟨(congrArg Bank.count (c.bank_setBank_self j b)).trans_le hcount,
            (congrArg Bank.count (c.bank_setBank_other j b)).trans_le (hh.counts j.other)⟩ }
    exact hhalts.laws
  · obtain rfl := hr.eq_other (j := j) (by simp [hj])
    rw [hr.other] at hj
    have hruns : (c.setBank i.other b).Runs i x b := by
      rw [Sched.setBank_eq]
      exact { hr with
        bank := (c.bank_setBank_of_other i b).trans hr.bank
        other := c.bank_setBank_self i.other b
        pair := by rw [hb, ← hj]; exact hr.pair
        otherValid := fun hne => absurd hb hne
        otherCount := hcount
        commit := by rw [hb, ← hj]; exact hr.commit
        left := by rw [hb, ← hj]; exact hr.left
        request := by rw [hb, ← hj]; exact hr.request
        cut := by rw [hb, ← hj]; exact hr.cut }
    exact hruns.laws

/-- R32: a FREE bank with a valid plan is armed. -/
theorem SchedLaws.after_arm {c : Sched} (h : SchedLaws c) (hs : c.state ≠ .halted) (hs' : c.state ≠ .stopping)
    {j : BankId} (hj : (c.bank j).state = .free) (hv : (c.bank j).planFault = none) (r : CommitRecord) :
    SchedLaws { c.setBankState j .armed with commit := some r } := by
  obtain ⟨i, x, y, hr⟩ := h.runs hs
  obtain rfl := hr.eq_other (j := j) (by simp [hj])
  rw [hr.other] at hj hv
  obtain ⟨hleft, hreq, hcut⟩ := hr.of_not_held (by simp [hj])
  have hrun : c.state = .running := by simpa [hs', hj] using pairAllowed_active_iff.mp hr.pair
  have hruns : Sched.Runs { c.setBankState i.other .armed with commit := some r } i x { y with state := .armed } := by
    rw [Sched.setBankState, hr.other, Sched.setBank_eq]
    exact { hr with
      bank := (c.bank_setBank_of_other i _).trans hr.bank
      other := c.bank_setBank_self i.other _
      pair := by rw [hrun]; rfl
      otherValid := fun _ => hv
      commit := ⟨fun _ => rfl, fun _ => rfl⟩
      left := fun hl => absurd hleft hl
      request := fun hq => absurd hq (by simp [hreq])
      cut := by simp [hcut] }
  exact hruns.laws

/-- R35: an ARMED bank is withdrawn. -/
theorem SchedLaws.after_withdraw {c : Sched} (h : SchedLaws c) {j : BankId} (hj : (c.bank j).state = .armed) :
    SchedLaws { c.setBankState j .free with commit := none } := by
  rcases h.halts_or_runs with hh | ⟨i, x, y, hr⟩
  · exact absurd (hh.free j) (by simp [hj])
  · obtain rfl := hr.eq_other (j := j) (by simp [hj])
    rw [hr.other] at hj
    obtain ⟨hleft, hreq, hcut⟩ := hr.of_not_held (by simp [hj])
    have hstate : c.state = .running ∨ c.state = .stopping := by simpa [hj] using pairAllowed_active_iff.mp hr.pair
    have hruns : Sched.Runs { c.setBankState i.other .free with commit := none } i x { y with state := .free } := by
      rw [Sched.setBankState, hr.other, Sched.setBank_eq]
      exact { hr with
        bank := (c.bank_setBank_of_other i _).trans hr.bank
        other := c.bank_setBank_self i.other _
        pair := pairAllowed_active_iff.mpr (by simpa using hstate)
        otherValid := fun hne => absurd rfl hne
        commit := by simp
        left := fun hl => absurd hleft hl
        request := fun hq => absurd hq (by simp [hreq])
        cut := by simp [hcut] }
    exact hruns.laws

/-- R29: the scheduler is started on a bank with a valid plan. -/
theorem SchedLaws.after_started {c : Sched} (h : SchedLaws c) (hs : c.state = .halted) {j : BankId}
    (hv : (c.bank j).planFault = none) : SchedLaws (c.started j) := by
  have hh := h.halts hs
  have hruns : (c.started j).Runs j { c.bank j with state := .active } (c.bank j.other) := by
    rw [Sched.started, Sched.setBankState, Sched.setBank_eq]
    exact {
      active := rfl
      bank := c.bank_setBank_self j _
      other := c.bank_setBank_other j _
      here := rfl
      pair := by rw [hh.free]; rfl
      valid := hv
      otherValid := fun hne => absurd (hh.free j.other) hne
      count := hh.counts j
      otherCount := hh.counts j.other
      position := Bank.cycleLength_pos_of_valid hv
      pending := fun _ => rfl
      commit := by simp [hh.commit, hh.free]
      left := fun hl => absurd rfl hl
      request := nofun
      cut := by simp }
  exact hruns.laws

/-- R30: a RUNNING scheduler is told to stop. -/
theorem SchedLaws.after_stop_running {c : Sched} (h : SchedLaws c) (hs : c.state = .running) :
    SchedLaws { c with state := .stopping } := by
  obtain ⟨i, x, y, hr⟩ := h.runs (by simp [hs])
  have hruns : Sched.Runs { c with state := .stopping } i x y := { hr with
    pair := pairAllowed_active_iff.mpr (.inr (.inr ⟨rfl, hr.other_ne_active⟩))
    cut := by
      have hy : y.state ≠ .held := by rcases hr.other_of_running hs with hy | hy <;> simp [hy]
      simp [hr.cut_eq_false (by simp [hs]), hy] }
  exact hruns.laws

/-- R30, R31: a scheduler in EXCURSION is told to stop. -/
theorem SchedLaws.after_stop_excursion {c : Sched} (h : SchedLaws c) (hs : c.state = .excursion) :
    SchedLaws { c with state := .stopping, stopFromExcursion := true } := by
  obtain ⟨i, x, y, hr⟩ := h.runs (by simp [hs])
  have hruns : Sched.Runs { c with state := .stopping, stopFromExcursion := true } i x y := { hr with
    pair := pairAllowed_active_iff.mpr (.inr (.inr ⟨rfl, hr.other_ne_active⟩))
    cut := by simp [hr.other_of_excursion hs] }
  exact hruns.laws

/-- R38: the end of an excursion is requested. -/
theorem SchedLaws.after_request_end {c : Sched} (h : SchedLaws c) (hs : c.state = .excursion) :
    SchedLaws { c with endRequested := true } := by
  obtain ⟨i, x, y, hr⟩ := h.runs (by simp [hs])
  have hruns : Sched.Runs { c with endRequested := true } i x y := { hr with
    request := fun _ => hr.other_of_excursion hs }
  exact hruns.laws

/-! ### The slot start and the boundary (R21 to R26) -/

/-- R21: the slot clock is in no law. -/
theorem SchedLaws.after_countSlot {c : Sched} (h : SchedLaws c) : SchedLaws c.countSlot := by
  rcases h.halts_or_runs with hh | ⟨i, x, y, hr⟩
  · have hhalts : c.countSlot.Halts := { hh with }
    exact hhalts.laws
  · have hruns : c.countSlot.Runs i x y := { hr with }
    exact hruns.laws

section Boundary

variable {c : Sched} {i : BankId} {x y : Bank}

/-- R25 case 1. -/
theorem Sched.Runs.laws_haltingBoundary (h : c.Runs i x y) : SchedLaws c.haltingBoundary := by
  have hhalts : c.haltingBoundary.Halts := {
    state := rfl
    active := rfl
    free := fun j => congrArg Bank.state (c.bank_mapStates (fun _ => .free) j)
    counts := fun j => (congrArg Bank.count (c.bank_mapStates (fun _ => .free) j)).trans_le (h.laws.counts j)
    position := rfl
    startPending := rfl
    commit := rfl
    left := rfl
    request := rfl
    cut := rfl }
  exact hhalts.laws

/-- R25 case 2: the HELD bank is restored. -/
theorem Sched.Runs.laws_restoringBoundary (h : c.Runs i x y) (hs : c.state = .excursion) :
    SchedLaws c.restoringBoundary := by
  have hy := h.other_of_excursion hs
  have hheld : c.bankIn .held = some i.other := Sched.bankIn_of_state (by rw [h.other, hy]) (by simp [h.bank, h.here])
  have hvalid : y.planFault = none := h.otherValid (by simp [hy])
  have hruns : c.restoringBoundary.Runs i.other { y with state := .active } { x with state := .free } := {
    active := hheld
    bank := (c.bank_mapStates restoredState i.other).trans (by rw [h.other, hy]; rfl)
    other := (c.bank_mapStates restoredState i.other.other).trans (by rw [BankId.other_other, h.bank, h.here]; rfl)
    here := rfl
    pair := rfl
    valid := hvalid
    otherValid := fun hne => absurd rfl hne
    count := h.otherCount
    otherCount := h.count
    position := Bank.cycleLength_pos_of_valid hvalid
    pending := fun _ => rfl
    commit := by simp [Sched.restoringBoundary, Sched.mapStates, h.commit_eq_none (by simp [hy])]
    left := fun hl => absurd rfl hl
    request := nofun
    cut := by simp [Sched.restoringBoundary, Sched.mapStates, h.cut_eq_false (by simp [hs])] }
  exact hruns.laws

/-- R25 cases 3 and 5: the same bank begins another cycle, `left` cycles being left where a bank is HELD. -/
theorem Sched.Runs.laws_nextCycle (h : c.Runs i x y) (left : Byte) (hl : left ≠ 0#8 → y.state = .held) :
    SchedLaws { c with position := 0, excursionLeft := left, cycle := c.cycle + 1#32 } := by
  have hruns : Sched.Runs { c with position := 0, excursionLeft := left, cycle := c.cycle + 1#32 } i x y := { h with
    position := Bank.cycleLength_pos_of_valid h.valid
    pending := fun _ => rfl
    left := hl }
  exact hruns.laws

/-- R25 case 4: the ARMED bank takes over; the bank that was ACTIVE is FREE, or HELD in an excursion. -/
theorem Sched.Runs.laws_swapBoundary (h : c.Runs i x y) {armed : BankId} (ha : c.bankIn .armed = some armed) :
    SchedLaws (c.swapBoundary armed) := by
  have harmed := Sched.bank_state_of_bankIn ha
  obtain rfl := h.eq_other (j := armed) (by simp [harmed])
  have hy : y.state = .armed := h.other ▸ harmed
  obtain ⟨hleft, hreq, hcut⟩ := h.of_not_held (by simp [hy])
  have hvalid : y.planFault = none := h.otherValid (by simp [hy])
  have hruns : (c.swapBoundary i.other).Runs i.other { y with state := .active }
      { x with state := swappedState c.commitMode .active } := {
    active := rfl
    bank := (c.bank_mapStates _ i.other).trans (by rw [h.other, hy]; rfl)
    other := (c.bank_mapStates _ i.other.other).trans (by rw [BankId.other_other, h.bank, h.here])
    here := rfl
    pair := by cases hm : c.commitMode <;> simp [Sched.swapBoundary, hm, swappedState, pairAllowed]
    valid := hvalid
    otherValid := fun _ => h.valid
    count := h.otherCount
    otherCount := h.count
    position := Bank.cycleLength_pos_of_valid hvalid
    pending := fun _ => rfl
    commit := by cases hm : c.commitMode <;> simp [Sched.swapBoundary, swappedState]
    left := by cases hm : c.commitMode <;> simp [Sched.swapBoundary, hm, swappedState, hleft]
    request := by simp [Sched.swapBoundary, Sched.mapStates, hreq]
    cut := by cases hm : c.commitMode <;> simp [Sched.swapBoundary, Sched.mapStates, hm, hcut] }
  exact hruns.laws

/-- R25: every case of the boundary keeps the laws. -/
theorem Sched.Runs.laws_boundary (h : c.Runs i x y) : SchedLaws c.boundary.1 := by
  rcases c.boundary_cases h.not_halted with ⟨-, hb⟩ | ⟨hs, -, hb⟩ | ⟨hs, -, -, hb⟩ | ⟨armed, -, ha, hb⟩ | ⟨-, -, hb⟩ <;>
    rw [hb]
  · exact h.laws_haltingBoundary
  · exact h.laws_restoringBoundary hs
  · exact h.laws_nextCycle (c.excursionLeft - 1#8) fun _ => h.other_of_excursion hs
  · exact h.laws_swapBoundary ha
  · exact h.laws_nextCycle c.excursionLeft h.left

/-- R22, R24: the slots that take no boundary. -/
theorem Sched.Runs.laws_setPosition (h : c.Runs i x y) {n : Nat} (hn : n < x.cycleLength) :
    SchedLaws { c with startPending := false, position := n } := by
  have hruns : Sched.Runs { c with startPending := false, position := n } i x y := { h with
    position := hn
    pending := nofun }
  exact hruns.laws

end Boundary

/-- R21 to R25: the start of a slot keeps the laws. -/
theorem SchedLaws.after_advance {c : Sched} (h : SchedLaws c) : SchedLaws c.advance.1 := by
  rcases c.advance_cases with ⟨-, ha⟩ | ⟨hs, -, ha⟩ | ⟨-, hs, -, ha⟩ | ⟨hdue, hs, hp, ha⟩ <;> rw [ha]
  · exact h
  · obtain ⟨i, x, y, hr⟩ := h.runs hs
    exact hr.laws_setPosition (Bank.cycleLength_pos_of_valid hr.valid)
  · obtain ⟨i, x, y, hr⟩ := h.runs hs
    exact hr.laws_boundary
  · obtain ⟨i, x, y, hr⟩ := h.runs hs
    have hlen : c.activeLength = x.cycleLength := by rw [Sched.activeLength_of_active hr.active, hr.bank]
    have hnext : c.position + 1 < x.cycleLength := by simpa [Sched.boundaryDue, hs, hp, hlen] using hdue
    have hkept := hr.laws_setPosition hnext
    rwa [← hp] at hkept

/-! ### Which rows change the scheduler -/

/-- R21: a slot start changes the scheduler as `advance` says. -/
theorem State.startSlot_sched (s : State) : s.startSlot.sched = s.sched.countSlot.advance.1 := by
  simp [State.startSlot, State.beginSlot]

theorem State.startSlotApart_sched (s : State) : s.startSlotApart.sched = s.sched.countSlot.advance.1 := by
  simp [State.startSlotApart, State.beginSlot]

/-- R148: a command whose owner leaves the scheduler alone leaves it alone. -/
theorem State.takeCommand_sched (s : State) {row : Option CommandCode} {run : List Byte → State → State × Answer}
    (hrun : ∀ p u, (run p u).1.sched = u.sched) : (s.takeCommand row run).sched = s.sched :=
  State.takeCommand_keeps (P := fun u => u.sched = s.sched) (fun _ _ h => h) (fun p u h => (hrun p u).trans h) rfl

/-- R147: parameters that fail leave the part alone, so the scheduler is as the owner leaves it. -/
theorem checked_sched {need : Nat} {checks : List (Nat × Bool)} {p : List Byte} {s : State} {owner : State × Answer}
    (h : owner.1.sched = s.sched) : (checked need checks p s owner).1.sched = s.sched :=
  checked_keeps (P := fun u => u.sched = s.sched) rfl h

section Owners

variable (s : State)

theorem State.flowWrite_sched (i : FlowIndex) (t : FlowTerms) : (s.flowWrite i t).1.sched = s.sched := by
  unfold State.flowWrite
  split
  · rfl
  · split <;> rfl

theorem State.flowRead_sched (i : FlowIndex) (clear : Bool) : (s.flowRead i clear).1.sched = s.sched := by
  cases clear <;> rfl

theorem State.flowRearm_sched (i : FlowIndex) (reset : Bool) : (s.flowRearm i reset).1.sched = s.sched := by
  unfold State.flowRearm; split <;> rfl

theorem State.classSet_sched (k : ClassId) (t : ClassTerms) : (s.classSet k t).1.sched = s.sched := by
  unfold State.classSet; split <;> rfl

theorem State.classRead_sched (k : ClassId) (clear : Bool) : (s.classRead k clear).1.sched = s.sched := by
  cases clear <;> rfl

theorem State.clearDrops_sched (clear : Bool) : (s.clearDrops clear).sched = s.sched := by
  cases clear <;> rfl

theorem State.portSet_sched (p : PortId) (t : PortTerms) : (s.portSet p t).1.sched = s.sched := by
  unfold State.portSet State.setPort; split <;> simp

theorem State.readStation_sched (p : PortId) (clear part1 : Bool) :
    (s.readStation p clear part1).1.sched = s.sched := by
  cases clear <;> cases part1 <;> rfl

theorem State.readTrunk_sched (clear part1 : Bool) : (s.readTrunk clear part1).1.sched = s.sched := by
  cases clear <;> cases part1 <;> rfl

end Owners

section Commands

variable (p : List Byte) (s : State)

theorem runEcho_sched : (runEcho p s).1.sched = s.sched := by
  unfold runEcho; split <;> rfl

theorem runStatus_sched : (runStatus p s).1.sched = s.sched :=
  checked_sched (s.clearDrops_sched _)

theorem runPlanRead_sched : (runPlanRead p s).1.sched = s.sched :=
  checked_sched rfl

theorem runFlowWrite_sched : (runFlowWrite p s).1.sched = s.sched :=
  checked_sched (s.flowWrite_sched _ _)

theorem runFlowRead_sched : (runFlowRead p s).1.sched = s.sched :=
  checked_sched (s.flowRead_sched _ _)

theorem runFlowClear_sched : (runFlowClear p s).1.sched = s.sched :=
  checked_sched rfl

theorem runFlowRearm_sched : (runFlowRearm p s).1.sched = s.sched :=
  checked_sched (s.flowRearm_sched _ _)

theorem runClassSet_sched : (runClassSet p s).1.sched = s.sched :=
  checked_sched (s.classSet_sched _ _)

theorem runClassRead_sched : (runClassRead p s).1.sched = s.sched :=
  checked_sched (s.classRead_sched _ _)

theorem runClassFlush_sched : (runClassFlush p s).1.sched = s.sched :=
  checked_sched rfl

theorem runRelaySet_sched : (runRelaySet p s).1.sched = s.sched :=
  checked_sched rfl

theorem runPortSet_sched : (runPortSet p s).1.sched = s.sched :=
  checked_sched (s.portSet_sched _ _)

theorem runPortRead_sched : (runPortRead p s).1.sched = s.sched := by
  refine checked_sched ?_
  split
  · exact s.readTrunk_sched _ _
  · exact s.readStation_sched _ _ _

theorem runNoticeSet_sched : (runNoticeSet p s).1.sched = s.sched :=
  checked_sched rfl

end Commands

/-! ### The commands that change the scheduler keep its laws -/

section PlanCommands

variable {s : State} (h : SchedLaws s.sched) (p : List Byte)

include h

theorem SchedLaws.after_runPlanWrite : SchedLaws (runPlanWrite p s).1.sched := by
  unfold runPlanWrite
  split
  · exact h
  · unfold State.planWrite
    split
    · next hfree => exact h.after_setBank_free hfree hfree (h.counts _)
    · exact h

theorem SchedLaws.after_runPlanLength : SchedLaws (runPlanLength p s).1.sched := by
  rcases checked_cases 2 _ p s (s.planLength (bankOf (par p 0)) (par p 1).toNat) with ⟨heq, hgood⟩ | ⟨off, heq⟩ <;>
    rw [runPlanLength, heq]
  · have hcount : (par p 1).toNat ≤ 64 := by
      obtain ⟨-, hchecks⟩ := badOffset_eq_none.mp hgood
      exact of_decide_eq_true (hchecks (1, _) (List.mem_cons_of_mem _ List.mem_cons_self))
    unfold State.planLength
    split
    · next hfree => exact h.after_setBank_free hfree hfree hcount
    · exact h
  · exact h

theorem SchedLaws.after_runPlanCommit : SchedLaws (runPlanCommit p s).1.sched := by
  refine checked_keeps (P := fun u => SchedLaws u.sched) h ?_
  unfold State.planCommit
  split_ifs with hs hfree
  · exact h
  · exact h
  · obtain ⟨hhalt, hstop⟩ := not_or.mp hs
    split
    · exact h
    · next hvalid => exact h.after_arm hhalt hstop (not_not.mp hfree) hvalid _

theorem SchedLaws.after_runPlanWithdraw : SchedLaws (runPlanWithdraw p s).1.sched := by
  refine checked_keeps (P := fun u => SchedLaws u.sched) h ?_
  unfold State.planWithdraw
  split
  · next harmed => exact h.after_withdraw harmed
  · exact h
  · exact h
  · exact h

theorem SchedLaws.after_runSchedStart : SchedLaws (runSchedStart p s).1.sched := by
  refine checked_keeps (P := fun u => SchedLaws u.sched) h ?_
  unfold State.schedStart
  split_ifs with hs
  · exact h
  · split
    · exact h
    · next hvalid => exact h.after_started (not_not.mp hs) hvalid

theorem SchedLaws.after_runSchedStop : SchedLaws (runSchedStop p s).1.sched := by
  unfold runSchedStop
  split
  · next hs => exact h.after_stop_running hs
  · next hs => exact h.after_stop_excursion hs
  · exact h
  · exact h

theorem SchedLaws.after_runExcursionEnd : SchedLaws (runExcursionEnd p s).1.sched := by
  unfold runExcursionEnd
  split
  · next hs => exact h.after_request_end hs
  · exact h
  · exact h
  · exact h

end PlanCommands

/-- R148: a command whose owner keeps the scheduler's laws keeps them. -/
theorem SchedLaws.after_takeCommand {row : Option CommandCode} {run : List Byte → State → State × Answer}
    (hrun : ∀ p u, SchedLaws u.sched → SchedLaws (run p u).1.sched) {s : State} (h : SchedLaws s.sched) :
    SchedLaws (s.takeCommand row run).sched :=
  State.takeCommand_keeps (P := fun u => SchedLaws u.sched) (fun _ _ hu => hu) hrun h

/-! ### The slot rows and the resets -/

theorem SchedLaws.after_settleReset {s : State} (h : SchedLaws s.sched) : SchedLaws s.settleReset.sched := by
  unfold State.settleReset
  split
  · exact SchedLaws.reset
  · exact h

theorem SchedLaws.after_slotStart {s t : State} (h : SchedLaws s.sched) (hx : exec .slotStart s = .next t) :
    SchedLaws t.sched := by
  obtain rfl := Host.Outcome.next.inj hx
  split
  · rw [State.startSlotApart_sched]
    refine (SchedLaws.after_settleReset ?_).after_countSlot.after_advance
    rwa [State.takeHanded_sched]
  · exact h

theorem SchedLaws.after_cycleBoundary {s t : State} (h : SchedLaws s.sched) (hx : exec .cycleBoundary s = .next t) :
    SchedLaws t.sched := by
  obtain rfl := Host.Outcome.next.inj hx
  split_ifs
  · rwa [State.takeHanded_sched]
  · rw [State.startSlot_sched]
    exact h.after_countSlot.after_advance
  · exact h
  · exact h

/-- R171: the end of the 2 ms of a power-on reset. -/
theorem sched_of_powerOnResetEnd {s t : State} {straps : BitVec 6} {rate : Bool}
    (hx : exec (.powerOnResetEnd straps rate) s = .next t) : t.sched = s.sched ∨ t.sched = Sched.reset := by
  obtain rfl := Host.Outcome.next.inj hx
  split
  · unfold State.powerUpOver
    split
    · exact .inr rfl
    · exact .inl rfl
  · exact .inl rfl
  · exact .inl rfl
  · exact .inl rfl

/-- R171: a low pulse on RESET_N. -/
theorem sched_of_pinReset {s t : State} {ns : Nat} (hx : exec (.pinReset ns) s = .next t) :
    t.sched = s.sched ∨ t.sched = Sched.reset := by
  obtain rfl := Host.Outcome.next.inj hx
  split
  · exact .inl rfl
  · unfold State.assertResetPin
    split
    · exact .inr rfl
    · exact .inl rfl

/-- R171: the release of RESET_N. -/
theorem sched_of_pinResetEnd {s t : State} {straps : BitVec 6} {rate : Bool}
    (hx : exec (.pinResetEnd straps rate) s = .next t) : t.sched = s.sched ∨ t.sched = Sched.reset := by
  obtain rfl := Host.Outcome.next.inj hx
  split
  · exact .inr rfl
  · exact .inl rfl
  · exact .inr rfl
  · exact .inl rfl

/-- R156: the management reset. -/
theorem sched_of_managementReset {s t : State} (hx : exec .managementReset s = .next t) :
    t.sched = s.sched ∨ t.sched = Sched.reset := by
  obtain rfl := Host.Outcome.next.inj hx
  split
  · exact .inr rfl
  · exact .inl rfl

/-! ### Every row -/

/-- R172: an event that a running part takes without a change of the scheduler. -/
theorem sched_of_running {s u : State} {b : Bool} (h : u.sched = s.sched) : (if b then u else s).sched = s.sched := by
  split
  · exact h
  · rfl

theorem SchedLaws.of_sched_eq {s t : State} (h : SchedLaws s.sched) (e : t.sched = s.sched) : SchedLaws t.sched :=
  e ▸ h

theorem SchedLaws.of_sched_eq_or_reset {s t : State} (h : SchedLaws s.sched)
    (e : t.sched = s.sched ∨ t.sched = Sched.reset) : SchedLaws t.sched :=
  e.elim h.of_sched_eq fun e => e ▸ SchedLaws.reset

/-- R12, R19, R23, R26, R33: every row keeps the laws of the scheduler. A reset makes them anew, a slot start and the
commands of the scheduler keep them, and every other row leaves the scheduler alone. -/
theorem SchedLaws.after_exec (i : Instr) (s t : State) (h : SchedLaws s.sched) (hx : exec i s = .next t) :
    SchedLaws t.sched := by
  cases i <;> obtain rfl := Host.Outcome.next.inj hx
  case powerOnReset => exact SchedLaws.reset
  case powerOnResetEnd => exact h.of_sched_eq_or_reset (sched_of_powerOnResetEnd hx)
  case pinReset => exact h.of_sched_eq_or_reset (sched_of_pinReset hx)
  case pinResetEnd => exact h.of_sched_eq_or_reset (sched_of_pinResetEnd hx)
  case managementReset => exact h.of_sched_eq_or_reset (sched_of_managementReset hx)
  case slotStart => exact h.after_slotStart hx
  case cycleBoundary => exact h.after_cycleBoundary hx
  case stationCellReceive p bytes => exact h.of_sched_eq (sched_of_running (s.receiveAt_sched p bytes))
  case stationSignalGained p =>
    exact h.of_sched_eq (sched_of_running (s := s.setStationLine p true) (State.gainSignal_sched _ p))
  case stationSignalLost p =>
    exact h.of_sched_eq (sched_of_running (s := s.setStationLine p false) (State.loseSignal_sched _ p))
  case stationTransmit p => exact h.of_sched_eq (sched_of_running (s.updPort_sched p _))
  case upstreamClassification p => exact h.of_sched_eq (sched_of_running (s.classifyNext_sched p))
  case cellAdmission p => exact h.of_sched_eq (sched_of_running (s.admitNext_sched p))
  case trunkCellReceive => exact h.of_sched_eq (sched_of_running (s.setTrunk_sched _))
  case trunkSignalChange up =>
    exact h.of_sched_eq (sched_of_running (s := s.setTrunkLine up) (State.changeTrunkSignal_sched _ up))
  case downstreamForward => exact h.of_sched_eq (sched_of_running s.forwardNext_sched)
  case badCommand => exact h.of_sched_eq (s.takeCommand_sched fun _ _ => rfl)
  case echo => exact h.of_sched_eq (s.takeCommand_sched runEcho_sched)
  case identify => exact h.of_sched_eq (s.takeCommand_sched fun _ _ => rfl)
  case status => exact h.of_sched_eq (s.takeCommand_sched runStatus_sched)
  case planWrite => exact h.after_takeCommand fun p _ hu => hu.after_runPlanWrite p
  case planLength => exact h.after_takeCommand fun p _ hu => hu.after_runPlanLength p
  case planRead => exact h.of_sched_eq (s.takeCommand_sched runPlanRead_sched)
  case planCommit => exact h.after_takeCommand fun p _ hu => hu.after_runPlanCommit p
  case planWithdraw => exact h.after_takeCommand fun p _ hu => hu.after_runPlanWithdraw p
  case schedStart => exact h.after_takeCommand fun p _ hu => hu.after_runSchedStart p
  case schedStop => exact h.after_takeCommand fun p _ hu => hu.after_runSchedStop p
  case excursionEnd => exact h.after_takeCommand fun p _ hu => hu.after_runExcursionEnd p
  case flowWrite => exact h.of_sched_eq (s.takeCommand_sched runFlowWrite_sched)
  case flowRead => exact h.of_sched_eq (s.takeCommand_sched runFlowRead_sched)
  case flowClear => exact h.of_sched_eq (s.takeCommand_sched runFlowClear_sched)
  case flowRearm => exact h.of_sched_eq (s.takeCommand_sched runFlowRearm_sched)
  case classSet => exact h.of_sched_eq (s.takeCommand_sched runClassSet_sched)
  case classRead => exact h.of_sched_eq (s.takeCommand_sched runClassRead_sched)
  case classFlush => exact h.of_sched_eq (s.takeCommand_sched runClassFlush_sched)
  case relaySet => exact h.of_sched_eq (s.takeCommand_sched runRelaySet_sched)
  case portSet => exact h.of_sched_eq (s.takeCommand_sched runPortSet_sched)
  case portRead => exact h.of_sched_eq (s.takeCommand_sched runPortRead_sched)
  case noticeSet => exact h.of_sched_eq (s.takeCommand_sched runNoticeSet_sched)
  case partReset => exact h.of_sched_eq (s.takeCommand_sched fun _ _ => rfl)

/-- Settles O56, row by row. -/
theorem everyStepKeepsTheSchedulerLaws : Obligations.EveryStepKeepsTheSchedulerLaws :=
  fun _ _ hs h => step_keeps (P := fun u => SchedLaws u.sched) (fun _ _ hu => hu) SchedLaws.after_exec hs h

end Sys2Proof.Machine
end

section
/-! PROOFS. The plan and scheduler commands PLAN_WRITE, PLAN_LENGTH, PLAN_READ, PLAN_COMMIT and SCHED_START (R14 to R18,
R29, R32), each answered for a fresh command. -/

namespace Sys2Proof.Machine

open Sys2Proof.Claims

/-! ### The scheduler's part in each command -/

@[simp] theorem Sched.setBank_cycle (c : Sched) (i : BankId) (b : Bank) : (c.setBank i b).cycle = c.cycle := by
  rw [Sched.setBank_eq]

section Owners

variable (s : State) {i : BankId}

/-- R14. -/
theorem State.planWrite_of_free (h : (s.sched.bank i).state = .free) (first : Nat) (es : List WindowEntry) :
    s.planWrite i first es =
      (s.setSched (s.sched.setBank i
        { s.sched.bank i with entries := storeEntries (s.sched.bank i).entries first es }), .ok []) :=
  if_pos h

/-- R18. -/
theorem State.planWrite_of_not_free (h : (s.sched.bank i).state ≠ .free) (first : Nat) (es : List WindowEntry) :
    s.planWrite i first es = (s, .refuse .bankBusy (s.sched.bank i).state.code) :=
  if_neg h

/-- R15. -/
theorem State.planLength_of_free (h : (s.sched.bank i).state = .free) (count : Nat) :
    s.planLength i count =
      (s.setSched (s.sched.setBank i { s.sched.bank i with count := count }),
        .ok (lengthBytes ({ s.sched.bank i with count := count } : Bank).cycleLength)) :=
  if_pos h

/-- R18. -/
theorem State.planLength_of_not_free (h : (s.sched.bank i).state ≠ .free) (count : Nat) :
    s.planLength i count = (s, .refuse .bankBusy (s.sched.bank i).state.code) :=
  if_neg h

/-- R32, the first condition. -/
theorem State.planCommit_of_not_running (h : s.sched.state = .halted ∨ s.sched.state = .stopping) (r : CommitRecord) :
    s.planCommit i r = (s, .refuse .notRunning s.sched.state.code) :=
  if_pos h

/-- R32, the second condition. -/
theorem State.planCommit_of_not_free (hs : ¬ (s.sched.state = .halted ∨ s.sched.state = .stopping))
    (h : (s.sched.bank i).state ≠ .free) (r : CommitRecord) :
    s.planCommit i r = (s, .refuse .bankBusy (s.sched.bank i).state.code) :=
  (if_neg hs).trans (if_pos h)

/-- R9, R32, the third condition. -/
theorem State.planCommit_of_invalid (hs : ¬ (s.sched.state = .halted ∨ s.sched.state = .stopping))
    (h : (s.sched.bank i).state = .free) {f : PlanFault × Nat} (hf : (s.sched.bank i).planFault = some f)
    (r : CommitRecord) : s.planCommit i r = (s, .planInvalid f) := by
  simp only [State.planCommit, hs, h, hf, ne_eq, not_true_eq_false, if_false]

/-- R32: a FREE bank with a valid plan. -/
theorem State.planCommit_of_valid (hs : ¬ (s.sched.state = .halted ∨ s.sched.state = .stopping))
    (h : (s.sched.bank i).state = .free) (hv : (s.sched.bank i).planFault = none) (r : CommitRecord) :
    s.planCommit i r =
      (s.setSched { s.sched.setBankState i .armed with commit := some r },
        .ok (lengthBytes (s.sched.bank i).cycleLength)) := by
  simp only [State.planCommit, hs, h, hv, ne_eq, not_true_eq_false, if_false]

/-- R29. -/
theorem State.schedStart_of_not_halted (h : s.sched.state ≠ .halted) :
    s.schedStart i = (s, .refuse .alreadyRunning s.sched.state.code) :=
  if_pos h

/-- R9, R29. -/
theorem State.schedStart_of_invalid (h : s.sched.state = .halted) {f : PlanFault × Nat}
    (hf : (s.sched.bank i).planFault = some f) : s.schedStart i = (s, .planInvalid f) := by
  simp only [State.schedStart, h, hf, ne_eq, not_true_eq_false, if_false]

/-- R29: a HALTED scheduler and a valid plan. -/
theorem State.schedStart_of_valid (h : s.sched.state = .halted) (hv : (s.sched.bank i).planFault = none) :
    s.schedStart i = (s.setSched (s.sched.started i), .ok (lengthBytes (s.sched.bank i).cycleLength)) := by
  simp only [State.schedStart, h, hv, ne_eq, not_true_eq_false, if_false]

end Owners

/-! ### Entries stored in a bank (R14, R159) -/

/-- R14: entries stored from a first place on stand in index order, and every other place keeps its entry. -/
theorem getElem_storeEntries (v : Vector WindowEntry 64) (first : Nat) (es : List WindowEntry) (j : Nat) (hj : j < 64) :
    (storeEntries v first es)[j] = if first ≤ j then es.getD (j - first) v[j] else v[j] := by
  induction es generalizing v first with
  | nil => simp [storeEntries]
  | cons e es ih =>
    rw [storeEntries, ih, Vector.getElem_setIfInBounds]
    rcases Nat.lt_trichotomy first j with hlt | rfl | hgt
    · have hpos : j - first = (j - (first + 1)) + 1 := by omega
      have h1 : first + 1 ≤ j := hlt
      have h2 : first ≤ j := by omega
      have h3 : first ≠ j := by omega
      simp [h1, h2, h3, hpos]
    · simp
    · have h1 : ¬ first + 1 ≤ j := by omega
      have h2 : ¬ first ≤ j := by omega
      have h3 : first ≠ j := by omega
      simp [h1, h2, h3]

/-- R14: PLAN_WRITE with its parameters in range. -/
theorem planWriteBad_eq_none {p : List Byte} {bk : BankId} (hbank : par p 0 = bk.code)
    (hpos : 1 ≤ (par p 2).toNat) (hmany : (par p 2).toNat ≤ 5) (hplaces : (par p 1).toNat + (par p 2).toNat ≤ 64)
    (hlen : 3 + 7 * (par p 2).toNat ≤ p.length) : planWriteBad p = none := by
  have hshort : ¬ p.length < 3 := by omega
  have hentries : ¬ p.length < 3 + 7 * (par p 2).toNat := by omega
  have hfirst : (par p 1).toNat < 64 := by omega
  have hgood : firstBad (planWriteChecks p) = none := by
    simp [planWriteChecks, firstBad, hbank, isBelow, hfirst, hpos, hmany, hplaces]
  simp only [planWriteBad, hshort, hgood, hentries, if_false]

/-- R159: the entries that PLAN_WRITE carries, by their number. -/
theorem getD_planWriteEntries {p : List Byte} {n : Nat} (h : n < (par p 2).toNat) (e : WindowEntry) :
    (planWriteEntries p).getD n e = entryAt p (3 + 7 * n) := by
  simp [planWriteEntries, h]

theorem length_planWriteEntries (p : List Byte) : (planWriteEntries p).length = (par p 2).toNat := by
  simp [planWriteEntries]

/-- R159: the seven bytes of an entry, most significant first. -/
theorem entryAt_eq (p : List Byte) (i : Nat) :
    entryAt p i =
      { span := p.getD i 0#8 ++ p.getD (i + 1) 0#8, openLen := p.getD (i + 2) 0#8 ++ p.getD (i + 3) 0#8,
        owner := p.getD (i + 4) 0#8, alignment := p.getD (i + 5) 0#8,
        reclaim := decide (p.getD (i + 6) 0#8 ≠ 0#8) } := by
  rw [entryAt, read16, read16, bne, decide_not, beq_eq_decide]

/-- Settles O42: the owner stores the entries, each place read off by `getElem_storeEntries`. -/
theorem planWriteStoresEntries : Obligations.PlanWriteStoresEntries := by
  intro s c rest bk first count hfresh hbank hfirst hcount hpos hmany hplaces hlen
  subst hfirst hcount
  have hbad : planWriteBad c.params = none := planWriteBad_eq_none hbank hpos hmany hplaces hlen
  have hrun : runPlanWrite c.params (s.taken rest) =
      (s.taken rest).planWrite bk (par c.params 1).toNat (planWriteEntries c.params) := by
    rw [runPlanWrite, hbad, show par c.params 0 = bk.code from hbank, bankOf_code]
  refine ⟨fun hfree => ⟨storeEntries (s.sched.bank bk).entries (par c.params 1).toNat (planWriteEntries c.params),
    congrArg Host.Outcome.next ?_, fun j hj => ?_, fun j n hn hj => ?_⟩, fun hbusy => congrArg Host.Outcome.next ?_⟩
  · exact State.takeCommand_eq_setSched hfresh (hrun.trans ((s.taken rest).planWrite_of_free hfree _ _))
      (Sched.setBank_cycle _ _ _)
  · rw [Fin.getElem_fin, getElem_storeEntries]
    split_ifs
    · exact List.getD_eq_default _ _ (by rw [length_planWriteEntries]; simp only [par] at *; omega)
    · rfl
  · rw [Fin.getElem_fin, getElem_storeEntries, if_pos (by simp only [par]; omega),
      show j.val - (par c.params 1).toNat = n by simp only [par]; omega, getD_planWriteEntries hn, entryAt_eq]
    rfl
  · exact State.takeCommand_eq_refused hfresh (hrun.trans ((s.taken rest).planWrite_of_not_free hbusy _ _))

/-- Settles O43: the owner's two cases for PLAN_LENGTH, and PLAN_READ's report in any bank state. -/
theorem planLengthAndPlanReadAnswer : Obligations.PlanLengthAndPlanReadAnswer := by
  refine ⟨fun s c rest bk count hfresh hlen hbank hcount hplaces => ?_,
    fun s c rest bk first count hfresh hlen hbank hfirst hcount hfirst63 hcount5 hplaces => ?_⟩
  · have h0 : par c.params 0 = bk.code := hbank
    have h1 : (par c.params 1).toNat = count := hcount
    have hgood : badOffset 2 [(0, isFlag (par c.params 0)), (1, decide ((par c.params 1).toNat ≤ Config.entryPlaces))]
        c.params = none := by
      simp [badOffset_of_long hlen, firstBad, h0, h1, hplaces]
    have hrun : runPlanLength c.params (s.taken rest) = (s.taken rest).planLength bk count := by
      rw [runPlanLength, checked_of_none hgood, h0, h1, bankOf_code]
    refine ⟨fun hfree => congrArg Host.Outcome.next ?_, fun hbusy => congrArg Host.Outcome.next ?_⟩
    · exact State.takeCommand_eq_setSched hfresh (hrun.trans ((s.taken rest).planLength_of_free hfree _))
        (Sched.setBank_cycle _ _ _)
    · exact State.takeCommand_eq_refused hfresh (hrun.trans ((s.taken rest).planLength_of_not_free hbusy _))
  · have h0 : par c.params 0 = bk.code := hbank
    have h1 : (par c.params 1).toNat = first := hfirst
    have h2 : (par c.params 2).toNat = count := hcount
    have hlt : first < 64 := by omega
    have hgood : badOffset 3 (planReadChecks c.params) c.params = none := by
      simp [badOffset_of_long hlen, planReadChecks, firstBad, isBelow, h0, h1, h2, hlt, hcount5, hplaces]
    have hrun : runPlanRead c.params (s.taken rest) = (s.taken rest, .ok ((s.sched.bank bk).report first count)) := by
      rw [runPlanRead, checked_of_none hgood, h0, h1, h2, bankOf_code]
      rfl
    exact congrArg Host.Outcome.next (State.takeCommand_eq_refused hfresh hrun)

/-- Settles O44: the four cases of the owner, in their order. -/
theorem planCommitArmsAValidBank : Obligations.PlanCommitArmsAValidBank := by
  intro s c rest bk mode hfresh hlen hbank hmode
  have h0 : par c.params 0 = bk.code := hbank
  have h1 : par c.params 1 = mode.code := hmode
  have hgood : badOffset 3 [(0, isFlag (par c.params 0)), (1, isFlag (par c.params 1))] c.params = none := by
    simp [badOffset_of_long hlen, h0, h1]
  have hrun : runPlanCommit c.params (s.taken rest) =
      (s.taken rest).planCommit bk { mode := mode, repeatN := c.params.getD 2 0#8 } := by
    rw [runPlanCommit, checked_of_none hgood, h0, h1, bankOf_code, modeOf_code]
    rfl
  have hruns (h : s.sched.state = .running ∨ s.sched.state = .excursion) :
      ¬ (s.sched.state = .halted ∨ s.sched.state = .stopping) := by
    rcases h with h | h <;> simp [h]
  refine ⟨fun hs => congrArg Host.Outcome.next ?_, fun hs hbusy => congrArg Host.Outcome.next ?_,
    fun hs hfree => ⟨fun f n hf => congrArg Host.Outcome.next ?_, fun hvalid => congrArg Host.Outcome.next ?_⟩⟩
  · exact State.takeCommand_eq_refused hfresh (hrun.trans ((s.taken rest).planCommit_of_not_running hs _))
  · exact State.takeCommand_eq_refused hfresh (hrun.trans ((s.taken rest).planCommit_of_not_free (hruns hs) hbusy _))
  · exact State.takeCommand_eq_refused hfresh (hrun.trans ((s.taken rest).planCommit_of_invalid (hruns hs) hfree hf _))
  · exact State.takeCommand_eq_setSched hfresh
      (hrun.trans ((s.taken rest).planCommit_of_valid (hruns hs) hfree hvalid _))
      (Sched.setBank_cycle s.sched bk { s.sched.bank bk with state := .armed })

/-- Settles O46: the three cases of the owner; the started scheduler is in cycle 0. -/
theorem schedStartRunsAValidBank : Obligations.SchedStartRunsAValidBank := by
  intro s c rest bk hfresh hlen hbank
  have h0 : par c.params 0 = bk.code := hbank
  have hgood : badOffset 1 [(0, isFlag (par c.params 0))] c.params = none := by
    simp [badOffset_of_long hlen, h0]
  have hrun : runSchedStart c.params (s.taken rest) = (s.taken rest).schedStart bk := by
    rw [runSchedStart, checked_of_none hgood, h0, bankOf_code]
  refine ⟨fun hs => congrArg Host.Outcome.next ?_,
    fun hs => ⟨fun f n hf => congrArg Host.Outcome.next ?_, fun hvalid => congrArg Host.Outcome.next ?_⟩⟩
  · exact State.takeCommand_eq_refused hfresh (hrun.trans ((s.taken rest).schedStart_of_not_halted hs))
  · exact State.takeCommand_eq_refused hfresh (hrun.trans ((s.taken rest).schedStart_of_invalid hs hf))
  · exact State.takeCommand_eq_setSched hfresh (hrun.trans ((s.taken rest).schedStart_of_valid hs hvalid)) rfl

end Sys2Proof.Machine
end

section
/-! PROOFS. The values after a reset (R10 to R168) and the laws that hold there. -/

namespace Sys2Proof.Machine

/-! ### The places of the tables at reset -/

theorem State.reset_class (k : ClassId) : State.reset.qm.classes[k] = ClassQueue.reset :=
  Vector.getElem_replicate k.isLt

theorem State.reset_flow (i : FlowIndex) : State.reset.flows[i] = FlowRecord.reset :=
  Vector.getElem_replicate i.isLt

theorem State.reset_port (p : PortId) : State.reset.ports[p] = Port.reset false :=
  Vector.getElem_replicate p.isLt

theorem State.reset_stationLine (p : PortId) : State.reset.pins.stationLine[p] = false :=
  Vector.getElem_replicate p.isLt

theorem Sched.reset_bank (bk : BankId) : Sched.reset.bank bk = Bank.reset := by
  cases bk <;> rfl

theorem Bank.reset_entry (i : Fin 64) : Bank.reset.entries[i] = WindowEntry.reset :=
  Vector.getElem_replicate i.isLt

theorem State.reset_free : State.reset.qm.free = List.finRange 512 := by
  simp only [State.reset, QueueManager.reset]

/-- R62: no queue names a buffer cell. -/
theorem State.reset_queued : State.reset.qm.queued = [] := by
  have hall : ∀ c ∈ State.reset.qm.classes.toList, c = ClassQueue.reset := fun c hc => by
    rw [show State.reset.qm.classes.toList = List.replicate 8 ClassQueue.reset from Vector.toList_replicate] at hc
    exact List.eq_of_mem_replicate hc
  rw [QueueManager.queued, List.flatMap_eq_nil_iff]
  exact fun c hc => by rw [hall c hc]; rfl

/-- Settles O3: the scalar values by computation, the places of the tables by their lemmas. -/
theorem resetLeavesTheStatedValues : Obligations.ResetLeavesTheStatedValues := by
  refine ⟨rfl, rfl, rfl, rfl, rfl, rfl, rfl, rfl, rfl, rfl, fun bk => ?_, ?_, fun j => ?_, rfl, State.reset_class,
    State.reset_flow, fun p => ?_, rfl, rfl, rfl, rfl, rfl, rfl, rfl⟩
  · change (Sched.reset.bank bk).state = _ ∧ (Sched.reset.bank bk).count = _ ∧
      ∀ i : Fin 64, (Sched.reset.bank bk).entries[i] = _
    rw [Sched.reset_bank]
    exact ⟨rfl, rfl, Bank.reset_entry⟩
  · rw [State.reset_free, List.length_finRange]
  · rw [State.reset_free]
    exact List.mem_finRange j
  · rw [State.reset_port, State.reset_stationLine]
    rfl

/-! ### The laws at reset -/

/-- R59 to R62. -/
theorem QueueLaws.reset : QueueLaws State.reset.qm where
  partition := by rw [State.reset_queued, List.append_nil, State.reset_free]
  limits k := by rw [State.reset_class]; exact Nat.zero_le _
  ranges k := by rw [State.reset_class]; decide
  ages k _ := by rw [State.reset_class]; rfl

/-- R79: no record is valid. -/
theorem FlowLaws.reset : FlowLaws State.reset.flows := by
  have hfree (i : FlowIndex) : State.reset.flows[i].valid ≠ true := by rw [State.reset_flow]; decide
  exact {
    ids := fun i h => absurd h (hfree i)
    unique := fun i _ h => absurd h (hfree i)
    gaps := fun i h => absurd h (hfree i) }

/-- R113: a port after any reset. -/
theorem PortLaws.reset (line : Bool) : PortLaws (Port.reset line) line where
  enable := ⟨fun _ => rfl, fun _ => rfl⟩
  fifo _ := rfl
  streak _ := rfl
  places := Nat.zero_le _
  signal := ⟨nofun, nofun⟩
  line := rfl

theorem LinkLaws.reset : LinkLaws State.reset where
  ports _ p := by
    rw [State.reset_port, State.reset_stationLine]
    exact PortLaws.reset false
  trunk _ := rfl

theorem ManagementLaws.reset : ManagementLaws State.reset where
  node := by decide
  commands := by decide
  responses := by decide
  data := nofun
  cache := nofun
  notices := by decide
  resetDone := by decide

/-- Settles O55: the five laws, block by block. -/
theorem theLawsHoldAtReset : Obligations.TheLawsHoldAtReset :=
  ⟨SchedLaws.reset, QueueLaws.reset, FlowLaws.reset, LinkLaws.reset, ManagementLaws.reset⟩

end Sys2Proof.Machine
end

section
/-! PROOFS. The slot start and the cycle boundary (R21 to R27): what SLOT_START and CYCLE_BOUNDARY answer, by what the
scheduler does at the counted slot. -/

namespace Sys2Proof.Machine

open Sys2Proof.Claims

/-! ### The notice unit (R161, R162, R167) -/

/-- R161, R162: a posting changes the notice unit alone, under the slot clock as it stands. -/
theorem State.post_eq_setNu_posted (s : State) (body : NoticeBody) :
    s.post body = s.setNu (posted s s.sched.slotClock body) := by
  rcases s.post_cases body with ⟨hmask, h⟩ | ⟨hmask, hfull, h⟩ | ⟨hmask, hroom, h⟩
  · simp only [h, posted, hmask, if_true]
    rfl
  · simp only [h, posted, hmask, hfull, if_true, Bool.true_eq_false, if_false]
  · simp only [h, posted, hmask, Nat.not_le.mpr hroom, Bool.true_eq_false, if_false]
    rfl

theorem State.takeHanded_of_some {s : State} {body : NoticeBody} (h : s.nu.handed = some body) :
    s.takeHanded = (s.handOver none).post body := by
  simp [State.takeHanded, h]

theorem State.takeHanded_of_none {s : State} (h : s.nu.handed = none) : s.takeHanded = s := by
  simp [State.takeHanded, h]

@[simp] theorem State.takeHanded_takeHanded (s : State) : s.takeHanded.takeHanded = s.takeHanded :=
  State.takeHanded_of_none s.takeHanded_handed

/-- With no posting waiting, the handing over of none changes nothing. -/
theorem State.handOver_none {s : State} (h : s.nu.handed = none) : s.handOver none = s := by
  rw [State.handOver, ← h]
  rfl

/-! ### The two rows that start a slot -/

section Rows

variable {s : State}

theorem State.running_of_phase (h : s.phase = .running) : s.running = true := by
  simp [State.running, h]

theorem exec_slotStart_of_running (h : s.phase = .running) :
    exec .slotStart s = .next s.takeHanded.settleReset.startSlotApart :=
  congrArg Host.Outcome.next (if_pos (State.running_of_phase h))

theorem exec_cycleBoundary_of_running (h : s.phase = .running) :
    exec .cycleBoundary s = .next
      (if s.nu.handed.isSome then s.takeHanded
      else if !s.managementResetDue && s.sched.boundaryDue then s.startSlot
      else s) :=
  congrArg Host.Outcome.next (if_pos (State.running_of_phase h))

theorem managementResetDue_of_slotting (h : Slotting s) : s.managementResetDue = false := by
  obtain ⟨-, hrun, -⟩ := h
  simp [State.managementResetDue, hrun]

theorem exec_slotStart_of_slotting (h : Slotting s) : exec .slotStart s = .next s.startSlotApart := by
  have hdue := managementResetDue_of_slotting h
  obtain ⟨hphase, -, hhanded⟩ := h
  rw [exec_slotStart_of_running hphase, State.takeHanded_of_none hhanded, State.settleReset, hdue]
  rfl

/-- R23, R25: the slot start that takes a boundary. -/
theorem exec_cycleBoundary_of_due (h : Slotting s) (hdue : s.sched.boundaryDue = true) :
    exec .cycleBoundary s = .next s.startSlot := by
  have hreset := managementResetDue_of_slotting h
  obtain ⟨hphase, -, hhanded⟩ := h
  rw [exec_cycleBoundary_of_running hphase, hhanded, hreset, hdue]
  rfl

theorem exec_cycleBoundary_of_not_due (h : Slotting s) (hdue : s.sched.boundaryDue = false) :
    exec .cycleBoundary s = .next s := by
  obtain ⟨hphase, -, hhanded⟩ := h
  rw [exec_cycleBoundary_of_running hphase, hhanded, hdue, Bool.and_false]
  rfl

/-! ### The slot that begins, by what the scheduler does at its start -/

variable {c : Sched} {b : Option NoticeBody}

theorem State.startSlot_of_advance (h : s.sched.countSlot.advance = (c, b)) :
    s.startSlot = ((s.setSched c).postIf b).serve c.kindHere := by
  rw [State.startSlot, State.beginSlot, h, State.postIf_sched, State.setSched_sched]

theorem State.startSlotApart_of_advance (h : s.sched.countSlot.advance = (c, b)) :
    s.startSlotApart = ((s.setSched c).handOver b).serve c.kindHere := by
  rw [State.startSlotApart, State.beginSlotApart, h, State.handOver_sched, State.setSched_sched]

/-- R22 to R24: SLOT_START at a slot whose start posts nothing. -/
theorem exec_slotStart_of_advance {kind : SlotKind} (h : Slotting s) (ha : s.sched.countSlot.advance = (c, none))
    (hkind : c.kindHere = kind) : exec .slotStart s = .next (State.serve { s with sched := c } kind) := by
  have hsilent : (s.setSched c).handOver none = s.setSched c := by
    obtain ⟨-, -, hhanded⟩ := h
    exact State.handOver_none hhanded
  rw [exec_slotStart_of_slotting h, State.startSlotApart_of_advance ha, hsilent, hkind]
  rfl

end Rows

/-! ### When a boundary is due, and the kind of the slot (R22, R23) -/

section Due

variable {c : Sched} {i : BankId}

theorem Sched.boundaryDue_of_active (hs : c.state ≠ .halted) (hp : c.startPending = false) (ha : c.active = some i) :
    c.boundaryDue = decide ((c.bank i).cycleLength ≤ c.position + 1) := by
  simp [Sched.boundaryDue, hs, hp, Sched.activeLength_of_active ha]

/-- R22 to R24: a HALTED scheduler, one at the start of its plan, and one within its cycle take no boundary. -/
theorem Sched.boundaryDue_eq_false
    (h : c.state = .halted ∨ c.startPending = true ∨
      c.active = some i ∧ c.position + 1 < (c.bank i).cycleLength) : c.boundaryDue = false := by
  rcases h with hs | hp | ⟨ha, hlt⟩
  · simp [Sched.boundaryDue, hs]
  · simp [Sched.boundaryDue, hp]
  · simp [Sched.boundaryDue, Sched.activeLength_of_active ha, hlt]

theorem Sched.kindHere_of_halted (h : c.state = .halted) : c.kindHere = .free :=
  if_pos h

theorem Sched.kindHere_of_active (hs : c.state ≠ .halted) (ha : c.active = some i) :
    c.kindHere = slotKindAt (c.bank i).plan c.position := by
  simp [Sched.kindHere, hs, ha]

theorem Sched.advance_of_halted (h : c.state = .halted) : c.advance = (c, none) :=
  if_pos h

/-- R24. -/
theorem Sched.advance_of_pending (hs : c.state ≠ .halted) (hp : c.startPending = true) :
    c.advance = ({ c with startPending := false, position := 0 }, none) := by
  simp [Sched.advance, hs, hp]

theorem Sched.advance_of_due (hs : c.state ≠ .halted) (hp : c.startPending = false) (hdue : c.boundaryDue = true) :
    c.advance = c.boundary := by
  simp [Sched.advance, hs, hp, hdue]

theorem Sched.advance_of_not_due (hs : c.state ≠ .halted) (hp : c.startPending = false)
    (hdue : c.boundaryDue = false) : c.advance = ({ c with position := c.position + 1 }, none) := by
  simp [Sched.advance, hs, hp, hdue]

end Due

/-- Settles O14: a posting that waits is taken first; then each kind of start is one case of `advance`. -/
theorem slotStartWithoutABoundary : Obligations.SlotStartWithoutABoundary := by
  refine ⟨fun s body hphase hhanded => ?_, fun s bk h hno => ?_, fun s h hs => ?_, fun s bk h hs ha hp => ?_,
    fun s bk h hs ha hp hlt => ?_⟩
  · intro v u
    have htaken : s.takeHanded = u := (State.takeHanded_of_some hhanded).trans (State.post_eq_setNu_posted v body)
    have hagain : u.takeHanded = u := by rw [← htaken, State.takeHanded_takeHanded]
    refine ⟨?_, ?_⟩
    · rw [exec_slotStart_of_running hphase, htaken, exec_slotStart_of_running (s := u) hphase, hagain]
    · rw [exec_cycleBoundary_of_running hphase, hhanded, htaken]
      rfl
  · exact exec_cycleBoundary_of_not_due h (Sched.boundaryDue_eq_false hno)
  · exact exec_slotStart_of_advance h (Sched.advance_of_halted (c := s.sched.countSlot) hs)
      (Sched.kindHere_of_halted hs)
  · exact exec_slotStart_of_advance h (Sched.advance_of_pending (c := s.sched.countSlot) hs hp)
      (Sched.kindHere_of_active hs ha)
  · have hdue : s.sched.countSlot.boundaryDue = false := Sched.boundaryDue_eq_false (.inr (.inr ⟨ha, hlt⟩))
    exact exec_slotStart_of_advance h (Sched.advance_of_not_due (c := s.sched.countSlot) hs hp hdue)
      (Sched.kindHere_of_active hs ha)

/-! ### The rows at a cycle's end (R25, R27) -/

section CycleEnd

variable {s : State} {bk : BankId} {c : Sched}

theorem boundaryDue_of_cycleEnds (h : CycleEnds s bk) (hs : s.sched.state ≠ .halted) : s.sched.boundaryDue = true := by
  obtain ⟨-, hp, ha, hlen⟩ := h
  rw [Sched.boundaryDue_of_active hs hp ha, hlen]
  exact decide_eq_true le_rfl

theorem advance_of_cycleEnds (h : CycleEnds s bk) (hs : s.sched.state ≠ .halted) :
    s.sched.countSlot.advance = s.sched.countSlot.boundary := by
  have hdue : s.sched.countSlot.boundaryDue = true := boundaryDue_of_cycleEnds h hs
  obtain ⟨-, hp, -, -⟩ := h
  exact Sched.advance_of_due hs hp hdue

/-- R27: a boundary that posts a notice. -/
theorem announced_of_boundary {body : NoticeBody} (h : CycleEnds s bk) (hs : s.sched.state ≠ .halted)
    (hb : s.sched.countSlot.boundary = (c, some body)) : announced s c body c.kindHere := by
  have ha := (advance_of_cycleEnds h hs).trans hb
  have hdue := boundaryDue_of_cycleEnds h hs
  obtain ⟨hslot, -, -, -⟩ := h
  refine ⟨?_, ?_⟩
  · rw [exec_cycleBoundary_of_due hslot hdue, State.startSlot_of_advance ha, State.postIf,
      State.post_eq_setNu_posted]
    rfl
  · rw [exec_slotStart_of_slotting hslot, State.startSlotApart_of_advance ha]
    rfl

/-- R27: a boundary that posts none. -/
theorem unannounced_of_boundary (h : CycleEnds s bk) (hs : s.sched.state ≠ .halted)
    (hb : s.sched.countSlot.boundary = (c, none)) : unannounced s c c.kindHere := by
  have ha := (advance_of_cycleEnds h hs).trans hb
  have hdue := boundaryDue_of_cycleEnds h hs
  obtain ⟨hslot, -, -, -⟩ := h
  refine ⟨?_, ?_⟩
  · rw [exec_cycleBoundary_of_due hslot hdue, State.startSlot_of_advance ha]
    rfl
  · exact exec_slotStart_of_advance hslot ha rfl

end CycleEnd

/-! ### The cases of the boundary (R25) -/

section Cases

variable {c : Sched} {i j : BankId}

/-- R10: a change of both banks' states, bank by bank. -/
theorem Sched.mapStates_eq_setBankState (c : Sched) (f : BankState → BankState) (i : BankId) :
    c.mapStates f =
      (c.setBankState i (f (c.bank i).state)).setBankState i.other (f (c.bank i.other).state) := by
  cases i <;> rfl

theorem Sched.plan_mapStates (c : Sched) (f : BankState → BankState) (i : BankId) :
    ((c.mapStates f).bank i).plan = (c.bank i).plan := by
  rw [Sched.bank_mapStates]
  rfl

/-- Banks in different states are the two banks. -/
theorem Sched.eq_other_of_state_ne (h : (c.bank j).state ≠ (c.bank i).state) : j = i.other :=
  BankId.eq_other_of_ne fun e => h (by rw [e])

theorem Sched.bankIn_eq_none {st : BankState} (h : ∀ i, (c.bank i).state ≠ st) : c.bankIn st = none :=
  Option.eq_none_iff_forall_ne_some.mpr fun i hi => h i (Sched.bank_state_of_bankIn hi)

theorem Sched.isSome_bankIn (c : Sched) (st : BankState) :
    (c.bankIn st).isSome = decide (c.bankA.state = st ∨ c.bankB.state = st) := by
  by_cases ha : c.bankA.state = st
  · simp [Sched.bankIn, ha]
  · by_cases hb : c.bankB.state = st <;> simp [Sched.bankIn, ha, hb]

theorem Sched.boundary_of_stopping (hs : c.state = .stopping) :
    c.boundary = (c.haltingBoundary, some (.schedHalted c.cycle
      (decide (c.bankA.state = .armed ∨ c.bankB.state = .armed)) c.stopFromExcursion)) := by
  simp only [Sched.boundary, hs, Sched.isSome_bankIn]

/-- R25 case 2, with the HELD bank named. -/
theorem Sched.boundary_of_restored (hs : c.state = .excursion) (hend : c.endRequested = true ∨ c.excursionLeft = 0#8)
    (hheld : c.bankIn .held = some i) :
    c.boundary =
      (c.restoringBoundary, some (.excursionDone i (if c.endRequested then .requested else .count))) := by
  simp [Sched.boundary, hs, hend, hheld]

theorem Sched.boundary_of_excursion (hs : c.state = .excursion) (hend : c.endRequested = false)
    (hleft : c.excursionLeft ≠ 0#8) : c.boundary = (c.excursionBoundary, none) := by
  simp [Sched.boundary, hs, hend, hleft]

theorem Sched.boundary_of_armed (hs : c.state = .running) (harmed : c.bankIn .armed = some i) :
    c.boundary = (c.swapBoundary i, some (.planSwapped i c.commitMode (c.cycle + 1#32))) := by
  simp only [Sched.boundary, hs, harmed]

theorem Sched.boundary_of_plain (hs : c.state = .running) (harmed : c.bankIn .armed = none) :
    c.boundary = (c.plainBoundary, none) := by
  simp only [Sched.boundary, hs, harmed]

/-- R25 case 2: the counted slot whose boundary restores the HELD bank beside the ACTIVE bank `i`. -/
theorem Sched.restoringBoundary_countSlot (hi : (c.bank i).state = .active) (ho : (c.bank i.other).state = .held) :
    c.countSlot.restoringBoundary =
      { (c.setBankState i .free).setBankState i.other .active with
        state := .running, active := some i.other, position := 0, excursionLeft := 0#8, endRequested := false,
        cycle := c.cycle + 1#32, slotClock := c.slotClock + 1#32 } := by
  have hheld : c.countSlot.bankIn .held = some i.other :=
    Sched.bankIn_of_state (c := c) ho (by simp [hi])
  have hmap : c.mapStates restoredState = (c.setBankState i .free).setBankState i.other .active := by
    rw [Sched.mapStates_eq_setBankState c restoredState i, hi, ho]
    rfl
  rw [Sched.restoringBoundary, hheld, ← hmap]
  rfl

/-- R25 case 4, R37: the counted slot whose boundary swaps in the ARMED bank beside the ACTIVE bank `i`. -/
theorem Sched.swapBoundary_countSlot {r : CommitRecord} (hi : (c.bank i).state = .active)
    (ho : (c.bank i.other).state = .armed) (hr : c.commit = some r) :
    c.countSlot.swapBoundary i.other =
      { (c.setBankState i (if r.mode = .permanent then .free else .held)).setBankState i.other .active with
        state := if r.mode = .permanent then .running else .excursion, active := some i.other, position := 0,
        excursionLeft := if r.mode = .permanent then c.excursionLeft else r.repeatN,
        commit := none, cycle := c.cycle + 1#32, slotClock := c.slotClock + 1#32 } := by
  have hmode : c.countSlot.commitMode = r.mode := by simp [Sched.commitMode, Sched.countSlot, hr]
  have hrepeat : c.countSlot.commitRepeat = r.repeatN := by simp [Sched.commitRepeat, Sched.countSlot, hr]
  have hmap : c.mapStates (swappedState r.mode) =
      (c.setBankState i (if r.mode = .permanent then .free else .held)).setBankState i.other .active := by
    rw [Sched.mapStates_eq_setBankState c (swappedState r.mode) i, hi, ho]
    cases r.mode <;> rfl
  rw [Sched.swapBoundary, hmode, hrepeat, ← hmap]
  cases r.mode <;> rfl

end Cases

/-- Settles O15: case 1 of the boundary; a HALTED scheduler begins a free slot. -/
theorem haltingBoundary : Obligations.HaltingBoundary := by
  intro s bk h hs
  exact announced_of_boundary h (by simp [hs]) (Sched.boundary_of_stopping (c := s.sched.countSlot) hs)

/-- Settles O16: cases 2 and 3 of the boundary; the slot is the first of the restored plan or of the same plan. -/
theorem excursionBoundaries : Obligations.ExcursionBoundaries := by
  refine ⟨fun s bk h hends hs hactive hheld hend => ?_, fun s bk hends hs hend hleft => ?_⟩
  · obtain rfl : h = bk.other := Sched.eq_other_of_state_ne (c := s.sched) (by simp [hactive, hheld])
    have hin : s.sched.countSlot.bankIn .held = some bk.other :=
      Sched.bankIn_of_state (c := s.sched) hheld (by simp [hactive])
    have hkind : s.sched.countSlot.restoringBoundary.kindHere = slotKindAt (s.sched.bank bk.other).plan 0 := by
      rw [Sched.kindHere_of_active (i := bk.other) (by simp [Sched.restoringBoundary]) hin]
      exact congrArg (slotKindAt · 0) (s.sched.plan_mapStates restoredState bk.other)
    rw [← Sched.restoringBoundary_countSlot hactive hheld, ← hkind]
    exact announced_of_boundary hends (by simp [hs])
      (Sched.boundary_of_restored (c := s.sched.countSlot) hs hend hin)
  · have hkind : s.sched.countSlot.excursionBoundary.kindHere = slotKindAt (s.sched.bank bk).plan 0 := by
      obtain ⟨-, -, hactive, -⟩ := hends
      exact Sched.kindHere_of_active (by simp [Sched.excursionBoundary, Sched.countSlot, hs]) hactive
    rw [← hkind]
    exact unannounced_of_boundary hends (by simp [hs])
      (Sched.boundary_of_excursion (c := s.sched.countSlot) hs hend hleft)

/-- Settles O17: cases 4 and 5 of the boundary; the slot is the first of the plan swapped in or of the same plan. -/
theorem runningBoundaries : Obligations.RunningBoundaries := by
  refine ⟨fun s bk other r hends hs hactive harmed hr => ?_, fun s bk hends hs hnone => ?_⟩
  · obtain rfl : other = bk.other := Sched.eq_other_of_state_ne (c := s.sched) (by simp [hactive, harmed])
    have hin : s.sched.countSlot.bankIn .armed = some bk.other :=
      Sched.bankIn_of_state (c := s.sched) harmed (by simp [hactive])
    have hmode : s.sched.countSlot.commitMode = r.mode := by simp [Sched.commitMode, Sched.countSlot, hr]
    have hkind : (s.sched.countSlot.swapBoundary bk.other).kindHere = slotKindAt (s.sched.bank bk.other).plan 0 := by
      rw [Sched.kindHere_of_active (i := bk.other) (by cases hm : r.mode <;> simp [Sched.swapBoundary, hmode, hm]) rfl]
      exact congrArg (slotKindAt · 0) (s.sched.plan_mapStates _ bk.other)
    rw [← Sched.swapBoundary_countSlot hactive harmed hr, ← hkind, ← hmode]
    exact announced_of_boundary hends (by simp [hs]) (Sched.boundary_of_armed (c := s.sched.countSlot) hs hin)
  · have hkind : s.sched.countSlot.plainBoundary.kindHere = slotKindAt (s.sched.bank bk).plan 0 := by
      obtain ⟨-, -, hactive, -⟩ := hends
      exact Sched.kindHere_of_active (by simp [Sched.plainBoundary, Sched.countSlot, hs]) hactive
    rw [← hkind]
    exact unannounced_of_boundary hends (by simp [hs])
      (Sched.boundary_of_plain (c := s.sched.countSlot) hs (Sched.bankIn_eq_none (c := s.sched) hnone))

end Sys2Proof.Machine
end

section
/-! PROOFS. The commands PLAN_WITHDRAW, SCHED_STOP, EXCURSION_END and STATUS (R30, R31, R35, R38, R40, R154), each
answered for a fresh command. -/

namespace Sys2Proof.Machine

open Sys2Proof.Claims

/-! ### The scheduler's part in each command -/

section Owners

variable (s : State) {i : BankId}

/-- R35. -/
theorem State.planWithdraw_of_armed (h : (s.sched.bank i).state = .armed) :
    s.planWithdraw i = (s.setSched { s.sched.setBankState i .free with commit := none }, .ok []) := by
  simp only [State.planWithdraw, h]

/-- R35: a bank that has become ACTIVE. -/
theorem State.planWithdraw_of_active (h : (s.sched.bank i).state = .active) :
    s.planWithdraw i = (s, .refuse .tooLate 2#8) := by
  simp only [State.planWithdraw, h, BankState.code]

/-- R35: a bank that is kept through an excursion. -/
theorem State.planWithdraw_of_held (h : (s.sched.bank i).state = .held) :
    s.planWithdraw i = (s, .refuse .tooLate 3#8) := by
  simp only [State.planWithdraw, h, BankState.code]

/-- R35. -/
theorem State.planWithdraw_of_free (h : (s.sched.bank i).state = .free) :
    s.planWithdraw i = (s, .refuse .nothingArmed 0#8) := by
  simp only [State.planWithdraw, h]

variable (p : List Byte)

/-- R30. -/
theorem runSchedStop_of_running (h : s.sched.state = .running) :
    runSchedStop p s = (s.setSched { s.sched with state := .stopping }, .ok []) := by
  simp only [runSchedStop, h]

/-- R30, R31: the excursion is cut. -/
theorem runSchedStop_of_excursion (h : s.sched.state = .excursion) :
    runSchedStop p s = (s.setSched { s.sched with state := .stopping, stopFromExcursion := true }, .ok []) := by
  simp only [runSchedStop, h]

/-- R30. -/
theorem runSchedStop_of_stopping (h : s.sched.state = .stopping) : runSchedStop p s = (s, .ok []) := by
  simp only [runSchedStop, h]

/-- R30. -/
theorem runSchedStop_of_halted (h : s.sched.state = .halted) : runSchedStop p s = (s, .refuse .notRunning 0#8) := by
  simp only [runSchedStop, h, SchedState.code]

/-- R38. -/
theorem runExcursionEnd_of_excursion (h : s.sched.state = .excursion) :
    runExcursionEnd p s = (s.setSched { s.sched with endRequested := true }, .ok [s.sched.excursionLeft]) := by
  simp only [runExcursionEnd, h]

/-- R38. -/
theorem runExcursionEnd_of_not_excursion (h : s.sched.state ≠ .excursion) :
    runExcursionEnd p s = (s, .refuse .notInExcursion s.sched.state.code) := by
  cases hs : s.sched.state with
  | excursion => exact absurd hs h
  | halted => simp only [runExcursionEnd, hs]
  | running => simp only [runExcursionEnd, hs]
  | stopping => simp only [runExcursionEnd, hs]

end Owners

/-- Settles O45: the owner's four cases, by the state of the bank. -/
theorem planWithdrawFreesAnArmedBank : Obligations.PlanWithdrawFreesAnArmedBank := by
  intro s c rest bk hfresh hlen hbank
  have h0 : par c.params 0 = bk.code := hbank
  have hgood : badOffset 1 [(0, isFlag (par c.params 0))] c.params = none := by
    simp [badOffset_of_long hlen, h0]
  have hrun : runPlanWithdraw c.params (s.taken rest) = (s.taken rest).planWithdraw bk := by
    rw [runPlanWithdraw, checked_of_none hgood, h0, bankOf_code]
  refine ⟨fun harmed => congrArg Host.Outcome.next ?_, fun hactive => congrArg Host.Outcome.next ?_,
    fun hheld => congrArg Host.Outcome.next ?_, fun hfree => congrArg Host.Outcome.next ?_⟩
  · exact State.takeCommand_eq_setSched hfresh (hrun.trans ((s.taken rest).planWithdraw_of_armed harmed))
      (Sched.setBank_cycle s.sched bk { s.sched.bank bk with state := .free })
  · exact State.takeCommand_eq_refused hfresh (hrun.trans ((s.taken rest).planWithdraw_of_active hactive))
  · exact State.takeCommand_eq_refused hfresh (hrun.trans ((s.taken rest).planWithdraw_of_held hheld))
  · exact State.takeCommand_eq_refused hfresh (hrun.trans ((s.taken rest).planWithdraw_of_free hfree))

/-- Settles O47: the owner's cases for the two commands, by the scheduler state. -/
theorem schedStopAndExcursionEndAnswer : Obligations.SchedStopAndExcursionEndAnswer := by
  refine ⟨fun s c rest hfresh => ⟨fun hs => congrArg Host.Outcome.next ?_, fun hs => congrArg Host.Outcome.next ?_,
      fun hs => congrArg Host.Outcome.next ?_, fun hs => congrArg Host.Outcome.next ?_⟩,
    fun s c rest hfresh => ⟨fun hs => congrArg Host.Outcome.next ?_, fun hs => congrArg Host.Outcome.next ?_⟩⟩
  · exact State.takeCommand_eq_setSched hfresh (runSchedStop_of_running (s.taken rest) c.params hs) rfl
  · exact State.takeCommand_eq_setSched hfresh (runSchedStop_of_excursion (s.taken rest) c.params hs) rfl
  · exact State.takeCommand_eq_refused hfresh (runSchedStop_of_stopping (s.taken rest) c.params hs)
  · exact State.takeCommand_eq_refused hfresh (runSchedStop_of_halted (s.taken rest) c.params hs)
  · exact State.takeCommand_eq_setSched hfresh (runExcursionEnd_of_excursion (s.taken rest) c.params hs) rfl
  · exact State.takeCommand_eq_refused hfresh (runExcursionEnd_of_not_excursion (s.taken rest) c.params hs)

/-! ### STATUS (R40, R154, R160) -/

/-- R40: the byte of the bank in a given state. -/
theorem bankOrNone_bankIn (c : Sched) (st : BankState) :
    bankOrNone (c.bankIn st) = if c.bankA.state = st then 0#8 else if c.bankB.state = st then 1#8 else 255#8 := by
  unfold Sched.bankIn
  split_ifs <;> rfl

theorem toList_of_four {α : Type} (v : Vector α 4) : v.toList = [v[0], v[1], v[2], v[3]] := by
  obtain ⟨⟨l⟩, hl⟩ := v
  match l, hl with
  | [_, _, _, _], _ => rfl

/-- R154: a fresh STATUS reports, and clears by its option. -/
theorem State.takeCommand_status {s : State} {c : Command} {rest : List Command} {clear : Bool}
    (h : Fresh s c rest .status) (hlen : 1 ≤ c.params.length) (hclear : par c.params 0 = flagByte clear) :
    s.takeCommand (some .status) runStatus =
      ((s.taken rest).clearDrops clear).answer c (.ok s.statusReport) := by
  have hgood : badOffset 1 [(0, isFlag (par c.params 0))] c.params = none := by
    simp [badOffset_of_long hlen, hclear]
  rw [State.takeCommand_eq_answer h, runStatus, checked_of_none hgood, hclear, flagByte_beq_one]
  rfl

/-- Settles O41: the report byte by byte, then the two values of the option. -/
theorem statusReportsAndClears : Obligations.StatusReportsAndClears := by
  intro s c rest hfresh hlen bankCode active data
  have hactive : bankOrNone s.sched.active = active := by
    subst active
    rcases s.sched.active with _ | _ | _ <;> rfl
  have hreport : s.statusReport = data := by
    rw [State.statusReport, hactive, bankOrNone_bankIn, bankOrNone_bankIn, toList_of_four]
    rfl
  refine ⟨fun hkeep => congrArg Host.Outcome.next ?_, fun hclear => congrArg Host.Outcome.next ?_⟩
  · rw [← hreport]
    exact State.takeCommand_status (clear := false) hfresh hlen hkeep
  · rw [← hreport]
    exact State.takeCommand_status (clear := true) hfresh hlen hclear

end Sys2Proof.Machine
end

section
/-! PROOFS. The service of a slot (R41 to R54): the winning class of the free-slot arbiter, and the part after the service
of a window slot and of a free slot. -/

namespace Sys2Proof.Machine

open Sys2Proof.Claims

/-! ### The winning class (R50 to R52) -/

/-- R50. -/
theorem ClassQueue.candidate_iff (c : ClassQueue) : c.candidate = true ↔ c.eligible = true ∧ c.queue ≠ [] := by
  simp [ClassQueue.candidate]

/-- R51. -/
theorem ClassQueue.promoted_iff (c : ClassQueue) :
    c.promoted = true ↔ c.agingLimit ≠ 0#8 ∧ c.agingLimit.toNat ≤ c.age.toNat := by
  simp [ClassQueue.promoted]

/-- R52 as one number: the age of a promoted class, above every priority, and the priority of any other class. -/
def ClassQueue.rank (c : ClassQueue) : Nat :=
  if c.promoted then 8 + c.age.toNat else c.priority.val

theorem ClassQueue.rank_of_promoted {c : ClassQueue} (h : c.promoted = true) : c.rank = 8 + c.age.toNat :=
  if_pos h

theorem ClassQueue.rank_of_not_promoted {c : ClassQueue} (h : c.promoted = false) : c.rank = c.priority.val := by
  simp [ClassQueue.rank, h]

/-- The comparison of R52 is that of the ranks. -/
theorem ClassQueue.beats_iff_rank_lt (c d : ClassQueue) : c.beats d = true ↔ d.rank < c.rank := by
  have hprioC := c.priority.isLt
  have hprioD := d.priority.isLt
  match hc : c.promoted, hd : d.promoted with
  | true, true => simp [ClassQueue.beats, hc, hd, ClassQueue.rank_of_promoted]
  | true, false =>
    simp only [ClassQueue.beats, hc, hd, ClassQueue.rank_of_promoted hc, ClassQueue.rank_of_not_promoted hd, true_iff]
    omega
  | false, true =>
    simp only [ClassQueue.beats, hc, hd, ClassQueue.rank_of_not_promoted hc, ClassQueue.rank_of_promoted hd]
    exact iff_of_false nofun (by omega)
  | false, false =>
    simp only [ClassQueue.beats, hc, hd, ClassQueue.rank_of_not_promoted, decide_eq_true_eq, Fin.lt_def]

/-- R52: against a promoted class only the promoted ones count, by age. -/
theorem ClassQueue.rank_le_iff_of_promoted {c d : ClassQueue} (hc : c.promoted = true) (tie : Prop) :
    (d.rank < c.rank ∨ d.rank = c.rank ∧ tie) ↔
      (d.promoted = true → d.age.toNat < c.age.toNat ∨ d.age.toNat = c.age.toNat ∧ tie) := by
  rw [ClassQueue.rank_of_promoted hc]
  cases hd : d.promoted with
  | true => simp [ClassQueue.rank_of_promoted hd]
  | false =>
    have hpriority := d.priority.isLt
    rw [ClassQueue.rank_of_not_promoted hd]
    exact iff_of_true (.inl (by omega)) nofun

/-- R52: a class that is not promoted stands up to no promoted one, and to the others by priority. -/
theorem ClassQueue.rank_le_iff_of_not_promoted {c d : ClassQueue} (hc : c.promoted = false) (tie : Prop) :
    (d.rank < c.rank ∨ d.rank = c.rank ∧ tie) ↔
      ¬ d.promoted = true ∧ (d.priority < c.priority ∨ d.priority = c.priority ∧ tie) := by
  rw [ClassQueue.rank_of_not_promoted hc]
  cases hd : d.promoted with
  | true =>
    have hpriority := c.priority.isLt
    rw [ClassQueue.rank_of_promoted hd]
    exact iff_of_false (by omega) (by simp)
  | false => simp only [ClassQueue.rank_of_not_promoted hd, Fin.lt_def, Fin.ext_iff, Bool.false_eq_true, not_false_iff,
      true_and]

namespace QueueManager

variable (q : QueueManager)

theorem mem_candidates (k : ClassId) :
    k ∈ q.candidates ↔ q.classes[k].eligible = true ∧ q.classes[k].queue ≠ [] := by
  rw [candidates, List.mem_filter, ClassQueue.candidate_iff]
  exact and_iff_right (List.mem_finRange k)

theorem sortedLT_candidates : q.candidates.SortedLT :=
  ((List.pairwise_lt_finRange 8).filter _).sortedLT

/-- The fold over the candidates keeps the first one of the largest rank. -/
theorem winner_eq_argmax : q.winner = q.candidates.argmax (fun k => q.classes[k].rank) := by
  have hstep : q.better = List.argAux (fun j b : ClassId => q.classes[b].rank < q.classes[j].rank) := by
    funext best j
    cases best with
    | none => rfl
    | some b => simp only [better, List.argAux, ClassQueue.beats_iff_rank_lt]
  rw [winner, hstep]
  rfl

end QueueManager

/-- In an ascending list the order of the places is that of the members. -/
theorem idxOf_le_idxOf_iff {α : Type} [LinearOrder α] {l : List α} (h : l.SortedLT) {a b : α} (ha : a ∈ l) (hb : b ∈ l) :
    l.idxOf a ≤ l.idxOf b ↔ a ≤ b := by
  have hplace := h.strictMono_get.le_iff_le (a := ⟨l.idxOf a, List.idxOf_lt_length_iff.mpr ha⟩)
    (b := ⟨l.idxOf b, List.idxOf_lt_length_iff.mpr hb⟩)
  simpa using hplace.symm

/-- R52: the winner is the first candidate of the largest rank. -/
theorem QueueManager.winner_eq_some_iff (q : QueueManager) (k : ClassId) :
    q.winner = some k ↔ k ∈ q.candidates ∧ ∀ j ∈ q.candidates,
      q.classes[j].rank < q.classes[k].rank ∨ q.classes[j].rank = q.classes[k].rank ∧ k ≤ j := by
  rw [winner_eq_argmax, List.argmax_eq_some_iff]
  refine and_congr_right fun hk => ⟨fun ⟨hmax, hfirst⟩ j hj => ?_, fun h => ⟨fun j hj => ?_, fun j hj hle => ?_⟩⟩
  · rcases (hmax j hj).lt_or_eq with hlt | heq
    · exact .inl hlt
    · exact .inr ⟨heq, (idxOf_le_idxOf_iff q.sortedLT_candidates hk hj).mp (hfirst j hj heq.ge)⟩
  · rcases h j hj with hlt | ⟨heq, -⟩
    · exact hlt.le
    · exact heq.le
  · rcases h j hj with hlt | ⟨-, hkj⟩
    · exact absurd hlt hle.not_gt
    · exact (idxOf_le_idxOf_iff q.sortedLT_candidates hk hj).mpr hkj

theorem QueueManager.winner_eq_none {q : QueueManager}
    (h : ∀ k : ClassId, ¬ (q.classes[k].eligible = true ∧ q.classes[k].queue ≠ [])) : q.winner = none := by
  have hempty : q.candidates = [] := List.eq_nil_iff_forall_not_mem.mpr fun k hk => h k ((q.mem_candidates k).mp hk)
  rw [winner, hempty]
  rfl

/-- Settles O20: the winner is the first candidate of the largest rank, and by `k`'s promotion ranks compare as ages or
as priorities. -/
theorem winnerIsPromotedByAgeElseByPriority : Obligations.WinnerIsPromotedByAgeElseByPriority := by
  intro q k candidate promoted
  have hmem (j : ClassId) : j ∈ q.candidates ↔ candidate j := q.mem_candidates j
  have hpromoted (j : ClassId) : q.classes[j].promoted = true ↔ promoted j := q.classes[j].promoted_iff
  simp only [q.winner_eq_some_iff, hmem]
  refine and_congr_right fun hk => ?_
  by_cases hpk : promoted k
  · have hsome : ¬ ∀ j, candidate j → ¬ promoted j := fun h => h k hk hpk
    simp only [ClassQueue.rank_le_iff_of_promoted ((hpromoted k).mpr hpk), hpromoted, hpk, hsome, true_and, false_and,
      or_false]
  · have hnot : q.classes[k].promoted = false := Bool.eq_false_iff.mpr (mt (hpromoted k).mp hpk)
    simp only [ClassQueue.rank_le_iff_of_not_promoted hnot, hpromoted, hpk, false_and, false_or, imp_and, forall_and]

/-! ### The sources of a slot's cell (R41, R42, R125) -/

section Sources

variable {s : State} {k : ClassId} {d : Descriptor} {ds : List Descriptor}

/-- R125: a transmission changes the trunk port alone. -/
theorem State.transmit_eq_sent (s : State) (c : Cell) : s.transmit c = { s with trunk := sent s.trunk c } := by
  unfold State.transmit sent
  cases c.kind <;> rfl

/-- R54, R67. -/
theorem QueueManager.dequeue_eq_dequeued {q : QueueManager} (h : q.classes[k].queue = d :: ds) :
    q.dequeue k = dequeued q k d ds := by
  have hclass : (fun c : ClassQueue => { c with queue := ds, transmitted := satAdd c.transmitted 1 }.settleAge) =
      fun c => { c with
        queue := ds, transmitted := satAdd c.transmitted 1, age := if ds = [] then 0#8 else c.age } := by
    funext c
    cases ds <;> rfl
  simp only [QueueManager.dequeue, h, hclass]
  rfl

theorem State.send_head (h : s.qm.classes[k].queue = d :: ds) :
    s.send (.head k) =
      { s with qm := dequeued s.qm k d ds, trunk := sent s.trunk (s.qm.buffer[d.index].withFlag d.demoted) } := by
  simp only [State.send, QueueManager.headCell, h, List.head?_cons, Option.map_some, State.transmit_eq_sent,
    QueueManager.dequeue_eq_dequeued h]
  rfl

theorem State.send_response {r : Response} {rest : List Response} (h : s.me.responses = r :: rest) :
    s.send .response =
      { s with
        me := { s.me with
          responses := rest, run := if s.me.run = .resetAnswered ∧ r.code = 0x7F#8 then .resetSent else s.me.run }
        trunk := sent s.trunk r.cell } := by
  simp only [State.send, h, State.transmit_eq_sent]
  rfl

theorem State.send_notice {n : Notice} {rest : List Notice} (h : s.nu.queue = n :: rest) :
    s.send .notice = { s with nu := { s.nu with queue := rest }, trunk := sent s.trunk n.cell } := by
  simp only [State.send, h, State.transmit_eq_sent]
  rfl

theorem State.send_idle (s : State) : s.send .idle = { s with trunk := sent s.trunk Cell.idle } :=
  s.transmit_eq_sent Cell.idle

end Sources

/-! ### Window slots (R44 to R47) -/

section Windows

variable {s : State} {kind : SlotKind}

theorem State.serve_of_source {src : Source} (h : s.windowSource kind = some src) : s.serve kind = s.send src := by
  simp only [State.serve, h]

/-- R47: a window without a source is served as a free slot. -/
theorem State.serve_eq_serve_free (h : s.windowSource kind = none) : s.serve kind = s.serve .free := by
  simp only [State.serve, h]
  rfl

end Windows

/-- Settles O18: what the window's source is in each case, and what it sends. -/
theorem windowSlotsServeTheirOwner : Obligations.WindowSlotsServeTheirOwner := by
  refine ⟨fun s k reclaim d ds hq => ?_, fun s k hq => ⟨?_, ?_⟩, fun s reclaim r rest hr => ?_,
    fun s reclaim n rest hr hn => ?_, fun s hr hn => ⟨?_, ?_⟩⟩
  · rw [State.serve_of_source (src := .head k) (by simp only [State.windowSource, hq]; rfl), State.send_head hq]
  · exact State.serve_eq_serve_free (by simp only [State.windowSource, hq]; rfl)
  · rw [State.serve_of_source (src := .idle) (by simp only [State.windowSource, hq]; rfl), State.send_idle]
  · rw [State.serve_of_source (src := .response) (by simp only [State.windowSource, hr]; rfl), State.send_response hr]
  · rw [State.serve_of_source (src := .notice) (by simp only [State.windowSource, hr, hn]; rfl), State.send_notice hn]
  · exact State.serve_eq_serve_free (by simp only [State.windowSource, hr, hn]; rfl)
  · rw [State.serve_of_source (src := .idle) (by simp only [State.windowSource, hr, hn]; rfl), State.send_idle]

/-! ### Free slots (R49, R53) -/

section FreeSlots

variable {s : State}

/-- R53: the age bookkeeping changes the classes alone. -/
theorem QueueManager.ageFree_eq_aged (q : QueueManager) (g : Option ClassId) :
    q.ageFree g = { q with classes := aged q g } := by
  have hclass (k : ClassId) : q.classes[k].aged (g == some k) =
      if q.classes[k].eligible = true ∧ q.classes[k].queue ≠ [] then
        { q.classes[k] with age := if g = some k then 0#8 else satAdd q.classes[k].age 1 }
      else q.classes[k] := by
    simp only [← ClassQueue.candidate_iff, ClassQueue.aged]
    cases q.classes[k].candidate with
    | false => rfl
    | true => by_cases hg : g = some k <;> simp [hg]
  simp only [QueueManager.ageFree, hclass, aged]

/-- R53: aging leaves every queue as it is. -/
theorem aged_queue (q : QueueManager) (g : Option ClassId) (k : ClassId) :
    (aged q g)[k].queue = q.classes[k].queue := by
  simp only [aged, Fin.getElem_fin, Vector.getElem_ofFn]
  split <;> rfl

/-- R53: without a candidate no class ages. -/
theorem aged_of_no_candidate {q : QueueManager}
    (h : ∀ k : ClassId, ¬ (q.classes[k].eligible = true ∧ q.classes[k].queue ≠ [])) (g : Option ClassId) :
    aged q g = q.classes := by
  ext k hk
  simp only [aged, Vector.getElem_ofFn]
  exact if_neg (h ⟨k, hk⟩)

theorem State.freeSource_of_response {r : Response} {rest : List Response} (h : s.me.responses = r :: rest) :
    s.freeSource = .response := by
  simp [State.freeSource, h]

theorem State.freeSource_of_notice {n : Notice} {rest : List Notice} (hr : s.me.responses = [])
    (hn : s.nu.queue = n :: rest) : s.freeSource = .notice := by
  simp [State.freeSource, hr, hn]

theorem State.freeSource_of_winner {k : ClassId} (hr : s.me.responses = []) (hn : s.nu.queue = [])
    (hk : s.qm.winner = some k) : s.freeSource = .head k := by
  simp [State.freeSource, hr, hn, hk]

theorem State.freeSource_of_none (hr : s.me.responses = []) (hn : s.nu.queue = []) (hk : s.qm.winner = none) :
    s.freeSource = .idle := by
  simp [State.freeSource, hr, hn, hk]

/-- R48, R53: a free slot ages the classes, then its source sends. -/
theorem State.serve_free_of_source {src : Source} (h : s.freeSource = src) :
    s.serve .free = (s.setQm { s.qm with classes := aged s.qm src.granted }).send src := by
  rw [← QueueManager.ageFree_eq_aged, ← h]
  rfl

end FreeSlots

/-- Settles O19: the four sources in the order of the arbiter. -/
theorem freeSlotsGoByPrecedence : Obligations.FreeSlotsGoByPrecedence := by
  refine ⟨fun s r rest hr => ?_, fun s n rest hr hn => ?_, fun s k d ds hr hn hk hq => ?_, fun s hr hn hnone => ?_⟩
  · exact (State.serve_free_of_source (State.freeSource_of_response hr)).trans (State.send_response hr)
  · exact (State.serve_free_of_source (State.freeSource_of_notice hr hn)).trans (State.send_notice hn)
  · have hqueue : (aged s.qm (some k))[k].queue = d :: ds := (aged_queue s.qm (some k) k).trans hq
    exact (State.serve_free_of_source (State.freeSource_of_winner hr hn hk)).trans (State.send_head hqueue)
  · rw [State.serve_free_of_source (State.freeSource_of_none hr hn (QueueManager.winner_eq_none hnone)),
      aged_of_no_candidate hnone, State.send_idle]
    rfl

end Sys2Proof.Machine
end

section
/-! PROOFS. The laws of the queue manager (R54, R59 to R61): the law of one class, and one lemma for each operation and
for each row that changes a queue. -/

namespace Sys2Proof.Machine

open Sys2Proof.Claims

/-! ### The laws by class -/

/-- R54, R61: the laws of one class. -/
structure ClassLaws (c : ClassQueue) : Prop where
  limit : c.occupancy ≤ c.limit
  range : c.limit ≤ 512
  age : c.queue = [] → c.age = 0#8

theorem QueueLaws.classLaws {q : QueueManager} (h : QueueLaws q) (k : ClassId) : ClassLaws q.classes[k] :=
  ⟨h.limits k, h.ranges k, h.ages k⟩

/-- R59: an operation that only moves indices, and whose classes keep their laws, keeps those of the queue manager. -/
theorem QueueLaws.of_perm {q r : QueueManager} (h : QueueLaws q)
    (hperm : (r.free ++ r.queued).Perm (q.free ++ q.queued)) (hclass : ∀ k : ClassId, ClassLaws r.classes[k]) :
    QueueLaws r where
  partition := hperm.trans h.partition
  limits k := (hclass k).limit
  ranges k := (hclass k).range
  ages k := (hclass k).age

/-- The same for an operation that changes one class. -/
theorem QueueLaws.of_updateAt {q r : QueueManager} {k : ClassId} {f : ClassQueue → ClassQueue} (h : QueueLaws q)
    (hperm : (r.free ++ r.queued).Perm (q.free ++ q.queued)) (hclasses : r.classes = updateAt q.classes k f)
    (hf : ClassLaws (f q.classes[k])) : QueueLaws r := by
  refine h.of_perm hperm fun j => ?_
  rw [hclasses]
  by_cases hj : k = j
  · subst hj
    rwa [getElem_updateAt_self]
  · rw [getElem_updateAt_ne _ hj]
    exact h.classLaws j

/-- R59: the free buffer count and the occupancies add up to the buffer cells. -/
theorem QueueLaws.free_add_occupancies {q : QueueManager} (h : QueueLaws q) :
    q.free.length + (q.classes.toList.map (fun c => c.queue.length)).sum = 512 := by
  have hlen := h.partition.length_eq
  simpa [QueueManager.queued, List.length_flatMap] using hlen

/-! ### The operations of the queue manager (R53, R63 to R75) -/

section Operations

variable {q : QueueManager} (h : QueueLaws q)

include h

/-- A change of one class's parameters or counters. -/
theorem QueueLaws.after_updClass {k : ClassId} {f : ClassQueue → ClassQueue}
    (hqueue : (f q.classes[k]).queue = q.classes[k].queue) (hf : ClassLaws (f q.classes[k])) :
    QueueLaws (q.updClass k f) :=
  h.of_updateAt (by rw [QueueManager.queued_updClass_of_queue hqueue]; exact .refl _) rfl hf

/-- R61, R64: an admitted offer finds its class below the limit. -/
theorem QueueLaws.after_store {o : Offer} (ha : q.admits o = true) : QueueLaws (q.store o) := by
  obtain ⟨hbelow, hfree⟩ := Bool.and_eq_true_iff.mp ha
  obtain ⟨i, rest, hi⟩ : ∃ i rest, q.free = i :: rest :=
    List.exists_cons_of_ne_nil fun hnil => by simp [hnil] at hfree
  obtain ⟨-, hrange, -⟩ := h.classLaws (q.targetOf o.target)
  refine h.of_updateAt (k := q.targetOf o.target)
    (f := fun c => { c with queue := c.queue ++ [Descriptor.mk i o.flow o.demoted], enqueued := satAdd c.enqueued 1 })
    (q.store_perm o) (by simp only [QueueManager.store, hi]; rfl) ⟨?_, hrange, fun hnil => ?_⟩
  · have hlt := of_decide_eq_true hbelow
    simpa [ClassQueue.occupancy] using hlt
  · simp at hnil

theorem QueueLaws.after_countDrop (o : Offer) : QueueLaws (q.countDrop o) := by
  obtain ⟨hlimit, hrange, hage⟩ := h.classLaws (q.targetOf o.target)
  exact h.after_updClass rfl ⟨hlimit, hrange, hage⟩

/-- R54, R67: a class that its dequeue empties has age 0. -/
theorem QueueLaws.after_dequeue (k : ClassId) : QueueLaws (q.dequeue k) := by
  cases hq : q.classes[k].queue with
  | nil => simpa only [QueueManager.dequeue, hq] using h
  | cons d ds =>
    obtain ⟨hlimit, hrange, -⟩ := h.classLaws k
    have hperm := q.dequeue_perm k
    rw [QueueManager.dequeue_eq_dequeued hq] at hperm ⊢
    refine h.of_updateAt
      (f := fun c => { c with
        queue := ds, transmitted := satAdd c.transmitted 1, age := if ds = [] then 0#8 else c.age })
      hperm rfl ⟨?_, hrange, fun hnil => if_pos hnil⟩
    rw [ClassQueue.occupancy, hq] at hlimit
    exact (Nat.le_succ _).trans hlimit

theorem QueueLaws.after_flush (k : ClassId) : QueueLaws (q.flush k) := by
  obtain ⟨-, hrange, -⟩ := h.classLaws k
  exact h.of_updateAt
    (f := fun c => { c with queue := [], flushed := satAdd c.flushed c.occupancy, age := 0#8 })
    (q.flush_perm k) rfl ⟨Nat.zero_le _, hrange, fun _ => rfl⟩

/-- R53, R54: only a class that is not empty ages. -/
theorem QueueLaws.after_ageFree (g : Option ClassId) : QueueLaws (q.ageFree g) := by
  have haged {c : ClassQueue} (hc : ClassLaws c) (granted : Bool) : ClassLaws (c.aged granted) := by
    obtain ⟨hlimit, hrange, hage⟩ := hc
    unfold ClassQueue.aged
    split
    · exact ⟨hlimit, hrange, hage⟩
    · next hcand =>
      have hne : c.queue ≠ [] := fun hnil => hcand (by simp [ClassQueue.candidate, hnil])
      split <;> exact ⟨hlimit, hrange, fun hnil => absurd hnil hne⟩
  refine h.of_perm (by rw [QueueManager.queued_ageFree]; exact .refl _) fun k => ?_
  simpa [QueueManager.ageFree] using haged (h.classLaws k) (g == some k)

end Operations

/-! ### Admission and the service of a slot -/

section Rows

variable {s : State} (h : QueueLaws s.qm)

include h

theorem QueueLaws.of_qm_eq {t : State} (e : t.qm = s.qm) : QueueLaws t.qm :=
  e ▸ h

theorem QueueLaws.of_qm_eq_or_reset {t : State} (e : t.qm = s.qm ∨ t.qm = QueueManager.reset) : QueueLaws t.qm :=
  e.elim h.of_qm_eq fun e => e ▸ QueueLaws.reset

theorem QueueLaws.after_takeOffer (o : Offer) : QueueLaws (s.takeOffer o).qm := by
  rcases s.takeOffer_cases o with ⟨ha, heq⟩ | ⟨-, heq⟩ <;> rw [heq]
  · exact h.after_store ha
  · refine QueueLaws.of_qm_eq (s := s.setQm (s.qm.countDrop o)) (h.after_countDrop o) ?_
    unfold State.countFlowDrop
    split <;> rfl

theorem QueueLaws.after_admitNext (p : PortId) : QueueLaws (s.admitNext p).qm := by
  unfold State.admitNext
  split
  · exact QueueLaws.after_takeOffer (s := s.updPort p _) h _
  · exact h
  · exact h

theorem QueueLaws.after_send (src : Source) : QueueLaws (s.send src).qm := by
  rcases s.send_cases src with ⟨k, d, ds, -, -, heq⟩ | ⟨r, rest, -, -, heq⟩ | ⟨n, rest, -, -, heq⟩ | heq <;> rw [heq]
  · exact h.after_dequeue k
  · exact h
  · exact h
  · exact h

theorem QueueLaws.after_serve (kind : SlotKind) : QueueLaws (s.serve kind).qm := by
  rcases s.serve_cases kind with ⟨src, -, heq⟩ | ⟨-, heq⟩ <;> rw [heq]
  · exact h.after_send src
  · exact QueueLaws.after_send (s := s.setQm _) (h.after_ageFree _) _

theorem QueueLaws.after_settleReset : QueueLaws s.settleReset.qm := by
  unfold State.settleReset
  split
  · exact QueueLaws.reset
  · exact h

end Rows

/-! ### The commands of the queue manager (R69 to R75) -/

section ClassCommands

variable {s : State} (h : QueueLaws s.qm) (p : List Byte)

include h

/-- R71: the checks hold the limit to 512, and the owner refuses one below the occupancy. -/
theorem QueueLaws.after_runClassSet : QueueLaws (runClassSet p s).1.qm := by
  rcases checked_cases 6 _ p s (s.classSet (classOf (par p 0)) (classTermsOf p)) with ⟨heq, hgood⟩ | ⟨off, heq⟩ <;>
    rw [runClassSet, heq]
  · obtain ⟨-, hchecks⟩ := badOffset_eq_none.mp hgood
    have hrange : (classTermsOf p).limit ≤ 512 :=
      of_decide_eq_true (hchecks (1, _) (List.mem_cons_of_mem _ List.mem_cons_self))
    unfold State.classSet
    split
    · exact h
    · next hlimit =>
      obtain ⟨-, -, hage⟩ := h.classLaws (classOf (par p 0))
      exact h.after_updClass rfl ⟨not_lt.mp hlimit, hrange, hage⟩
  · exact h

theorem QueueLaws.after_runClassRead : QueueLaws (runClassRead p s).1.qm := by
  refine checked_keeps (P := fun u => QueueLaws u.qm) h ?_
  unfold State.classRead
  split
  · obtain ⟨hlimit, hrange, hage⟩ := h.classLaws (classOf (par p 0))
    exact h.after_updClass rfl ⟨hlimit, hrange, hage⟩
  · exact h

theorem QueueLaws.after_runClassFlush : QueueLaws (runClassFlush p s).1.qm :=
  checked_keeps (P := fun u => QueueLaws u.qm) h (h.after_flush _)

/-- R75: the relay class has no part in the laws. -/
theorem QueueLaws.after_runRelaySet : QueueLaws (runRelaySet p s).1.qm :=
  checked_keeps (P := fun u => QueueLaws u.qm) h (h.of_perm (.refl _) h.classLaws)

end ClassCommands

/-! ### The commands that leave the queue manager alone -/

section OtherCommands

variable (p : List Byte) (s : State)

/-- R147: parameters that fail leave the part alone, so the queue manager is as the owner leaves it. -/
theorem checked_qm {need : Nat} {checks : List (Nat × Bool)} {p : List Byte} {s : State} {owner : State × Answer}
    (h : owner.1.qm = s.qm) : (checked need checks p s owner).1.qm = s.qm :=
  checked_keeps (P := fun u => u.qm = s.qm) rfl h

theorem runEcho_qm : (runEcho p s).1.qm = s.qm := by
  unfold runEcho; split <;> rfl

theorem runStatus_qm : (runStatus p s).1.qm = s.qm :=
  checked_qm (by unfold State.clearDrops; split <;> rfl)

theorem runPlanWrite_qm : (runPlanWrite p s).1.qm = s.qm := by
  unfold runPlanWrite
  split
  · rfl
  · unfold State.planWrite; split <;> rfl

theorem runPlanLength_qm : (runPlanLength p s).1.qm = s.qm :=
  checked_qm (by unfold State.planLength; split <;> rfl)

theorem runPlanRead_qm : (runPlanRead p s).1.qm = s.qm :=
  checked_qm rfl

theorem runPlanCommit_qm : (runPlanCommit p s).1.qm = s.qm := by
  refine checked_qm ?_
  unfold State.planCommit
  split_ifs
  · rfl
  · rfl
  · split <;> rfl

theorem runPlanWithdraw_qm : (runPlanWithdraw p s).1.qm = s.qm :=
  checked_qm (by unfold State.planWithdraw; split <;> rfl)

theorem runSchedStart_qm : (runSchedStart p s).1.qm = s.qm := by
  refine checked_qm ?_
  unfold State.schedStart
  split
  · rfl
  · split <;> rfl

theorem runSchedStop_qm : (runSchedStop p s).1.qm = s.qm := by
  unfold runSchedStop; split <;> rfl

theorem runExcursionEnd_qm : (runExcursionEnd p s).1.qm = s.qm := by
  unfold runExcursionEnd; split <;> rfl

theorem runFlowWrite_qm : (runFlowWrite p s).1.qm = s.qm := by
  refine checked_qm ?_
  unfold State.flowWrite
  split
  · rfl
  · split <;> rfl

theorem runFlowRead_qm : (runFlowRead p s).1.qm = s.qm :=
  checked_qm (by unfold State.flowRead; split <;> rfl)

theorem runFlowClear_qm : (runFlowClear p s).1.qm = s.qm :=
  checked_qm rfl

theorem runFlowRearm_qm : (runFlowRearm p s).1.qm = s.qm :=
  checked_qm (by unfold State.flowRearm; split <;> rfl)

theorem runPortSet_qm : (runPortSet p s).1.qm = s.qm :=
  checked_qm (by unfold State.portSet State.setPort; split <;> simp)

theorem runPortRead_qm : (runPortRead p s).1.qm = s.qm := by
  refine checked_qm ?_
  split
  · unfold State.readTrunk; split <;> split <;> rfl
  · unfold State.readStation; split <;> split <;> rfl

theorem runNoticeSet_qm : (runNoticeSet p s).1.qm = s.qm :=
  checked_qm rfl

end OtherCommands

/-! ### The rows of the engine and the resets -/

/-- R148: a command whose owner keeps the laws keeps them. -/
theorem QueueLaws.after_takeCommand {row : Option CommandCode} {run : List Byte → State → State × Answer}
    (hrun : ∀ p u, QueueLaws u.qm → QueueLaws (run p u).1.qm) {s : State} (h : QueueLaws s.qm) :
    QueueLaws (s.takeCommand row run).qm :=
  State.takeCommand_keeps (P := fun u => QueueLaws u.qm) (fun _ _ hu => hu) hrun h

/-- R148: a command whose owner leaves the queue manager alone keeps the laws. -/
theorem QueueLaws.after_takeCommand_of_qm {row : Option CommandCode} {run : List Byte → State → State × Answer}
    (hrun : ∀ p u, (run p u).1.qm = u.qm) {s : State} (h : QueueLaws s.qm) : QueueLaws (s.takeCommand row run).qm :=
  h.after_takeCommand fun p u hu => hu.of_qm_eq (hrun p u)

section ResetRows

variable {s t : State} {straps : BitVec 6} {rate : Bool}

/-- R171: the end of the 2 ms of a power-on reset. -/
theorem qm_of_powerOnResetEnd (hx : exec (.powerOnResetEnd straps rate) s = .next t) :
    t.qm = s.qm ∨ t.qm = QueueManager.reset := by
  obtain rfl := Host.Outcome.next.inj hx
  split
  · unfold State.powerUpOver
    split
    · exact .inr rfl
    · exact .inl rfl
  · exact .inl rfl
  · exact .inl rfl
  · exact .inl rfl

/-- R171: a low pulse on RESET_N. -/
theorem qm_of_pinReset {ns : Nat} (hx : exec (.pinReset ns) s = .next t) :
    t.qm = s.qm ∨ t.qm = QueueManager.reset := by
  obtain rfl := Host.Outcome.next.inj hx
  split
  · exact .inl rfl
  · unfold State.assertResetPin
    split
    · exact .inr rfl
    · exact .inl rfl

/-- R171: the release of RESET_N. -/
theorem qm_of_pinResetEnd (hx : exec (.pinResetEnd straps rate) s = .next t) :
    t.qm = s.qm ∨ t.qm = QueueManager.reset := by
  obtain rfl := Host.Outcome.next.inj hx
  split
  · exact .inr rfl
  · exact .inl rfl
  · exact .inr rfl
  · exact .inl rfl

/-- R156: the management reset. -/
theorem qm_of_managementReset (hx : exec .managementReset s = .next t) :
    t.qm = s.qm ∨ t.qm = QueueManager.reset := by
  obtain rfl := Host.Outcome.next.inj hx
  split
  · exact .inr rfl
  · exact .inl rfl

end ResetRows

/-! ### Every row -/

/-- R172: what a running part keeps of the laws, the row keeps. -/
theorem QueueLaws.of_running {u s : State} {b : Bool} (hs : QueueLaws s.qm) (hu : QueueLaws u.qm) :
    QueueLaws (if b then u else s).qm := by
  split
  · exact hu
  · exact hs

theorem QueueLaws.after_slotStart {s t : State} (h : QueueLaws s.qm) (hx : exec .slotStart s = .next t) :
    QueueLaws t.qm := by
  obtain rfl := Host.Outcome.next.inj hx
  refine h.of_running (QueueLaws.after_serve ?_ _)
  rw [State.beginSlotApart_qm]
  exact (h.of_qm_eq s.takeHanded_qm).after_settleReset

theorem QueueLaws.after_cycleBoundary {s t : State} (h : QueueLaws s.qm) (hx : exec .cycleBoundary s = .next t) :
    QueueLaws t.qm := by
  obtain rfl := Host.Outcome.next.inj hx
  split_ifs
  · exact h.of_qm_eq s.takeHanded_qm
  · exact (h.of_qm_eq s.beginSlot_qm).after_serve _
  · exact h
  · exact h

/-- R54, R59 to R61: every row keeps the laws of the queue manager. A reset makes them anew, a slot start, an admission
and the class commands keep them, and every other row leaves the queue manager alone. -/
theorem QueueLaws.after_exec (i : Instr) (s t : State) (h : QueueLaws s.qm) (hx : exec i s = .next t) :
    QueueLaws t.qm := by
  cases i <;> obtain rfl := Host.Outcome.next.inj hx
  case powerOnReset => exact QueueLaws.reset
  case powerOnResetEnd => exact h.of_qm_eq_or_reset (qm_of_powerOnResetEnd hx)
  case pinReset => exact h.of_qm_eq_or_reset (qm_of_pinReset hx)
  case pinResetEnd => exact h.of_qm_eq_or_reset (qm_of_pinResetEnd hx)
  case managementReset => exact h.of_qm_eq_or_reset (qm_of_managementReset hx)
  case slotStart => exact h.after_slotStart hx
  case cycleBoundary => exact h.after_cycleBoundary hx
  case stationCellReceive p bytes => exact h.of_running (h.of_qm_eq (s.receiveAt_qm p bytes))
  case stationSignalGained p =>
    exact QueueLaws.of_running (s := s.setStationLine p true) h (h.of_qm_eq (State.gainSignal_qm _ p))
  case stationSignalLost p =>
    exact QueueLaws.of_running (s := s.setStationLine p false) h (h.of_qm_eq (State.loseSignal_qm _ p))
  case stationTransmit p => exact h.of_running (h.of_qm_eq (s.updPort_qm p _))
  case upstreamClassification p => exact h.of_running (h.of_qm_eq (s.classifyNext_qm p))
  case cellAdmission p => exact h.of_running (h.after_admitNext p)
  case trunkCellReceive => exact h.of_running (h.of_qm_eq (s.setTrunk_qm _))
  case trunkSignalChange up =>
    exact QueueLaws.of_running (s := s.setTrunkLine up) h (h.of_qm_eq (State.changeTrunkSignal_qm _ up))
  case downstreamForward => exact h.of_running (h.of_qm_eq s.forwardNext_qm)
  case badCommand => exact h.after_takeCommand_of_qm fun _ _ => rfl
  case echo => exact h.after_takeCommand_of_qm runEcho_qm
  case identify => exact h.after_takeCommand_of_qm fun _ _ => rfl
  case status => exact h.after_takeCommand_of_qm runStatus_qm
  case planWrite => exact h.after_takeCommand_of_qm runPlanWrite_qm
  case planLength => exact h.after_takeCommand_of_qm runPlanLength_qm
  case planRead => exact h.after_takeCommand_of_qm runPlanRead_qm
  case planCommit => exact h.after_takeCommand_of_qm runPlanCommit_qm
  case planWithdraw => exact h.after_takeCommand_of_qm runPlanWithdraw_qm
  case schedStart => exact h.after_takeCommand_of_qm runSchedStart_qm
  case schedStop => exact h.after_takeCommand_of_qm runSchedStop_qm
  case excursionEnd => exact h.after_takeCommand_of_qm runExcursionEnd_qm
  case flowWrite => exact h.after_takeCommand_of_qm runFlowWrite_qm
  case flowRead => exact h.after_takeCommand_of_qm runFlowRead_qm
  case flowClear => exact h.after_takeCommand_of_qm runFlowClear_qm
  case flowRearm => exact h.after_takeCommand_of_qm runFlowRearm_qm
  case classSet => exact h.after_takeCommand fun p _ hu => hu.after_runClassSet p
  case classRead => exact h.after_takeCommand fun p _ hu => hu.after_runClassRead p
  case classFlush => exact h.after_takeCommand fun p _ hu => hu.after_runClassFlush p
  case relaySet => exact h.after_takeCommand fun p _ hu => hu.after_runRelaySet p
  case portSet => exact h.after_takeCommand_of_qm runPortSet_qm
  case portRead => exact h.after_takeCommand_of_qm runPortRead_qm
  case noticeSet => exact h.after_takeCommand_of_qm runNoticeSet_qm
  case partReset => exact h.after_takeCommand_of_qm fun _ _ => rfl

/-- Settles O57: the laws row by row, and the sum from the partition. -/
theorem everyStepKeepsTheBufferPartition : Obligations.EveryStepKeepsTheBufferPartition := by
  intro s t hs h
  have hlaws := step_keeps (P := fun u => QueueLaws u.qm) (fun _ _ hu => hu) QueueLaws.after_exec hs h
  exact ⟨hlaws, hlaws.free_add_occupancies⟩

end Sys2Proof.Machine
end

section
/-! PROOFS. Admission (R63 to R65, R75, R107) and the class commands CLASS_SET, CLASS_READ, CLASS_FLUSH and RELAY_SET
(R69, R71, R73 to R75), each command answered for a fresh command. -/

namespace Sys2Proof.Machine

open Sys2Proof.Claims

/-! ### The queue manager takes an offer (R63 to R65, R107) -/

section Admission

variable {s : State} {q : QueueManager} {o : Offer} {p : PortId} {f : Port → Port} {rest : List HandOff}

/-- R64. -/
theorem QueueManager.admits_iff :
    q.admits o = true ↔
      q.classes[q.targetOf o.target].queue.length < q.classes[q.targetOf o.target].limit ∧ q.free ≠ [] :=
  Bool.and_eq_true_iff.trans (and_congr decide_eq_true_iff (by simp))

/-- R64, R65. -/
theorem QueueManager.admits_eq_false_iff :
    q.admits o = false ↔
      q.classes[q.targetOf o.target].limit ≤ q.classes[q.targetOf o.target].queue.length ∨ q.free = [] := by
  rw [← Bool.not_eq_true, admits_iff, not_and_or, not_lt, not_ne_iff]

/-- R64: the first free index takes the cell (log entry 7), and its descriptor joins the tail of the class. -/
theorem QueueManager.store_of_free {j : Fin 512} {js : List (Fin 512)} (hfree : q.free = j :: js) :
    q.store o =
      { q with
        free := js, buffer := updateAt q.buffer j (fun _ => o.cell)
        classes := updateAt q.classes (q.targetOf o.target) (fun c =>
          { c with
            queue := c.queue ++ [{ index := j, flow := o.flow, demoted := o.demoted }]
            enqueued := satAdd c.enqueued 1 }) } := by
  simp only [QueueManager.store, hfree]
  rfl

theorem State.updPort_takeOffer_of_admits (h : s.qm.admits o = true) :
    (s.updPort p f).takeOffer o = (s.updPort p f).setQm (s.qm.store o) := by
  rcases (s.updPort p f).takeOffer_cases o with ⟨-, heq⟩ | ⟨hdrop, -⟩
  · exact heq
  · simp [h] at hdrop

theorem State.updPort_takeOffer_of_not_admits (h : s.qm.admits o = false) :
    (s.updPort p f).takeOffer o = ((s.updPort p f).setQm (s.qm.countDrop o)).countFlowDrop o := by
  rcases (s.updPort p f).takeOffer_cases o with ⟨hstore, -⟩ | ⟨-, heq⟩
  · simp [h] at hstore
  · exact heq

/-- R63: the offer at the front of a port's hand-off list leaves it and is taken. -/
theorem exec_cellAdmission_of_offer (hphase : s.phase = .running) (hoffer : s.ports[p].handoff = .offer o :: rest) :
    exec (.cellAdmission p) s =
      .next ((s.updPort p (fun pt => { pt with handoff := rest })).takeOffer o) := by
  refine congrArg Host.Outcome.next ((if_pos (State.running_of_phase hphase)).trans ?_)
  simp only [State.admitNext, hoffer]

end Admission

/-- Settles O30: the offer leaves the port, and the queue manager stores it or drops and counts it, in the class that
`QueueManager.targetOf` names (the statement's `k`, by definition). -/
theorem admissionStoresOrDropsAnOffer : Obligations.AdmissionStoresOrDropsAnOffer := by
  intro s p o rest hphase hoffer k popped
  have hexec := exec_cellAdmission_of_offer hphase hoffer
  refine ⟨fun j js hroom hfree => hexec.trans (congrArg Host.Outcome.next ?_),
    fun hfull => hexec.trans (congrArg Host.Outcome.next ?_)⟩
  · have hadmits : s.qm.admits o = true := QueueManager.admits_iff.mpr ⟨hroom, by simp [hfree]⟩
    rw [State.updPort_takeOffer_of_admits hadmits, QueueManager.store_of_free hfree]
    rfl
  · have hdrops : s.qm.admits o = false := QueueManager.admits_eq_false_iff.mpr hfull
    rw [State.updPort_takeOffer_of_not_admits hdrops, State.countFlowDrop]
    cases o.flow with
    | none => rfl
    | some i => rfl

/-! ### The answer of the queue manager to a command (R148) -/

/-- R148, R149: an answer after an effect on the queue manager alone. -/
theorem State.takeCommand_eq_setQm {s : State} {c : Command} {rest : List Command} {code : CommandCode}
    {run : List Byte → State → State × Answer} {q : QueueManager} {a : Answer} (h : Fresh s c rest code)
    (hrun : run c.params (s.taken rest) = ((s.taken rest).setQm q, a)) :
    s.takeCommand (some code) run =
      { s with qm := q, me := engineAfter s c rest s.sched.cycle a.status a.detail a.data } := by
  rw [State.takeCommand_eq_answer h, hrun]
  rfl

/-! ### CLASS_SET (R71) -/

/-- R158: the two bytes of a number, most significant first, read back. -/
theorem read16_of_bytes {p : List Byte} {i : Nat} {x : BitVec 16} (hhigh : p.getD i 0#8 = x.extractLsb' 8 8)
    (hlow : p.getD (i + 1) 0#8 = x.extractLsb' 0 8) : read16 p i = x := by
  rw [read16, hhigh, hlow, BitVec.extractLsb'_append_extractLsb'_eq_extractLsb' (Nat.zero_add 8).symm]
  exact BitVec.extractLsb'_eq_self

section ClassSet

variable (s : State) {k : ClassId} {t : ClassTerms}

/-- R71: a limit below the occupancy. -/
theorem State.classSet_of_below (h : t.limit < s.qm.classes[k].queue.length) :
    s.classSet k t =
      (s, { status := .limitBelowOccupancy, detail := 0#8, data := countBytes s.qm.classes[k].queue.length }) :=
  if_pos h

/-- R71: a limit that the occupancy keeps to. -/
theorem State.classSet_of_fits (h : s.qm.classes[k].queue.length ≤ t.limit) :
    s.classSet k t =
      (s.setQm (s.qm.updClass k (fun x => x.withTerms t)),
        .ok (countBytes s.qm.classes[k].queue.length ++ [s.qm.classes[k].age])) :=
  if_neg (not_lt.mpr h)

/-- R71: CLASS_SET with its parameters in range reaches the queue manager. -/
theorem runClassSet_of_inRange {p : List Byte} {limit : BitVec 16} {priority : Fin 8}
    (hlen : 6 ≤ p.length) (hclass : par p 0 = BitVec.ofNat 8 k.val) (hlimit : read16 p 1 = limit)
    (hrange : limit.toNat ≤ 512) (hpriority : par p 3 = BitVec.ofNat 8 priority.val)
    (heligible : (par p 5).toNat ≤ 1) :
    runClassSet p s =
      s.classSet k { limit := limit.toNat, priority := priority, agingLimit := par p 4,
                     eligible := decide (par p 5 = 1#8) } := by
  have hgood : badOffset 6 [(0, isBelow 8 (par p 0)), (1, decide ((read16 p 1).toNat ≤ Config.bufferCells)),
      (3, isBelow 8 (par p 3)), (5, isFlag (par p 5))] p = none := by
    simp [badOffset_of_long hlen, hclass, hlimit, hpriority, isFlag, heligible, Config.bufferCells, hrange]
  rw [runClassSet, checked_of_none hgood, classTermsOf, hclass, hlimit, hpriority, classOf_ofNat, classOf_ofNat,
    beq_eq_decide]

end ClassSet

/-! ### CLASS_READ (R73, R74) -/

/-- R51, R73: the promoted flag as it is reported. -/
theorem ClassQueue.promoted_eq_decide (c : ClassQueue) :
    c.promoted = decide (c.agingLimit ≠ 0#8 ∧ c.agingLimit.toNat ≤ c.age.toNat) :=
  Bool.eq_iff_iff.mpr (c.promoted_iff.trans decide_eq_true_iff.symm)

/-- R73, R160: the flow bytes of the head descriptor stand before its demoted flag. -/
theorem ClassQueue.headReport_cons {c : ClassQueue} {d : Descriptor} {ds : List Descriptor} (h : c.queue = d :: ds) :
    c.headReport =
      (match d.flow with
        | some i => [1#8, BitVec.ofNat 8 i.val]
        | none => [0#8, 255#8]) ++ [flagByte d.demoted] := by
  simp only [ClassQueue.headReport, h]
  cases d.flow <;> rfl

/-- R73: a fresh CLASS_READ reports, and clears by its option. -/
theorem State.takeCommand_classRead {s : State} {c : Command} {rest : List Command} {k : ClassId} {clear : Bool}
    (h : Fresh s c rest .classRead) (hlen : 2 ≤ c.params.length) (hclass : par c.params 0 = BitVec.ofNat 8 k.val)
    (hclear : par c.params 1 = flagByte clear) :
    s.takeCommand (some .classRead) runClassRead =
      ((s.taken rest).classRead k clear).1.answer c (.ok (s.qm.classes[k].report s.qm.free.length)) := by
  have hgood : badOffset 2 [(0, isBelow 8 (par c.params 0)), (1, isFlag (par c.params 1))] c.params = none := by
    simp [badOffset_of_long hlen, hclass, hclear]
  rw [State.takeCommand_eq_answer h, runClassRead, checked_of_none hgood, hclass, hclear, classOf_ofNat,
    flagByte_beq_one]
  rfl

/-- Settles O50: the two cases of CLASS_SET's owner, then the report byte by byte and the two values of the option. -/
theorem classSetAndClassReadAnswer : Obligations.ClassSetAndClassReadAnswer := by
  intro s c rest k hclass q
  refine ⟨fun limit priority hfresh hlen hhigh hlow hrange hpriority heligible => ?_,
    fun hfresh hlen => ?_⟩
  · have hrun := runClassSet_of_inRange (s.taken rest) hlen hclass (read16_of_bytes hhigh hlow) hrange hpriority
      heligible
    refine ⟨fun hbelow => congrArg Host.Outcome.next ?_, fun hfits => congrArg Host.Outcome.next ?_⟩
    · exact State.takeCommand_eq_refused hfresh (hrun.trans ((s.taken rest).classSet_of_below hbelow))
    · exact State.takeCommand_eq_setQm hfresh (hrun.trans ((s.taken rest).classSet_of_fits hfits))
  · intro promoted head data
    have hhead : q.headReport = head := by
      subst head
      cases hq : q.queue with
      | nil => simp only [ClassQueue.headReport, hq]
      | cons d ds => exact ClassQueue.headReport_cons hq
    have hreport : q.report s.qm.free.length = data := by
      rw [ClassQueue.report, hhead, ClassQueue.promoted_eq_decide]
      rfl
    rw [← hreport]
    refine ⟨fun hkeep => congrArg Host.Outcome.next ?_, fun hclear => congrArg Host.Outcome.next ?_⟩
    · exact State.takeCommand_classRead (clear := false) hfresh hlen hclass hkeep
    · exact State.takeCommand_classRead (clear := true) hfresh hlen hclass hclear

/-! ### CLASS_FLUSH and RELAY_SET (R69, R75) -/

/-- R69, R75, R147: the one parameter of CLASS_FLUSH and of RELAY_SET, a class in range. -/
theorem badOffset_class_eq_none {p : List Byte} {k : ClassId} (hlen : 1 ≤ p.length)
    (hclass : par p 0 = BitVec.ofNat 8 k.val) : badOffset 1 [(0, isBelow 8 (par p 0))] p = none := by
  simp [badOffset_of_long hlen, hclass]

/-- Settles O51: each owner's answer, the class being in range. -/
theorem classFlushAndRelaySetAnswer : Obligations.ClassFlushAndRelaySetAnswer := by
  intro s c rest k hclass hlen
  have hgood := badOffset_class_eq_none hlen hclass
  have hk : classOf (par c.params 0) = k := (congrArg classOf hclass).trans (classOf_ofNat k)
  refine ⟨fun hfresh => congrArg Host.Outcome.next ?_, fun hfresh => congrArg Host.Outcome.next ?_⟩
  · have hrun : runClassFlush c.params (s.taken rest) = (s.taken rest).classFlush k := by
      rw [runClassFlush, checked_of_none hgood, hk]
    exact State.takeCommand_eq_setQm hfresh hrun
  · have hrun : runRelaySet c.params (s.taken rest) = (s.taken rest).relaySet k := by
      rw [runRelaySet, checked_of_none hgood, hk]
    exact State.takeCommand_eq_setQm hfresh hrun

end Sys2Proof.Machine
end

section
/-! PROOFS. The laws of the flow table (R77, R78): one lemma for each operation and for each row that changes a flow
record. -/

namespace Sys2Proof.Machine

/-! ### The operations of the flow table -/

section Operations

variable {v : Vector FlowRecord 256} (h : FlowLaws v)

include h

/-- R77, R78: an update that makes no record valid and keeps the written fields keeps the laws. -/
theorem FlowLaws.updateAt_of_terms {i : FlowIndex} {f : FlowRecord → FlowRecord}
    (hvalid : (f v[i]).valid = true → v[i].valid = true) (hterms : (f v[i]).terms = v[i].terms) :
    FlowLaws (Machine.updateAt v i f) :=
  h.updateAt (fun hv => hterms ▸ h.ids i (hvalid hv))
    (fun hv j hj hvj he => hj (h.unique j i hvj (hvalid hv) (he.trans (congrArg FlowTerms.flowId hterms))))
    (fun hv => hterms ▸ h.gaps i (hvalid hv))

/-- R77, R78, R87: a record written with a free flow ID that is not reserved and a join gap of at least 1. -/
theorem FlowLaws.updateAt_of_written {i : FlowIndex} {r : FlowRecord}
    (hreserved : ¬ (r.terms.flowId = 0#12 ∨ r.terms.flowId = 4095#12))
    (hfree : duplicateFlow v i r.terms.flowId = none) (hgap : r.terms.joinGap ≠ 0#8) :
    FlowLaws (Machine.updateAt v i fun _ => r) :=
  h.updateAt (fun _ => not_or.mp hreserved) (fun _ => duplicateFlow_eq_none.mp hfree) (fun _ => hgap)

end Operations

section Rows

variable {s t : State} (h : FlowLaws s.flows)

include h

theorem FlowLaws.after_updFlow {i : FlowIndex} {f : FlowRecord → FlowRecord}
    (hvalid : (f s.flows[i]).valid = true → s.flows[i].valid = true)
    (hterms : (f s.flows[i]).terms = s.flows[i].terms) : FlowLaws (s.updFlow i f).flows :=
  h.updateAt_of_terms hvalid hterms

theorem FlowLaws.of_flows_eq (e : t.flows = s.flows) : FlowLaws t.flows :=
  e ▸ h

theorem FlowLaws.of_flows_eq_or_reset (e : t.flows = s.flows ∨ t.flows = State.reset.flows) : FlowLaws t.flows :=
  e.elim h.of_flows_eq fun e => e ▸ FlowLaws.reset

/-- R80 to R84: only a measured cell changes a record, and only its measurement. -/
theorem FlowLaws.after_classify (p : PortId) (c : BufCell) (slot : Word32) :
    FlowLaws (s.classify p c slot).1.flows := by
  rcases s.classify_cases p c slot with ⟨-, heq⟩ | ⟨i, -, -, -, heq⟩ | ⟨i, -, -, -, heq⟩ <;> rw [heq]
  · exact h
  · exact h
  · rw [State.measureFlow, State.postIf_flows]
    exact h.after_updFlow id rfl

theorem FlowLaws.after_classifyNext (p : PortId) : FlowLaws (s.classifyNext p).flows := by
  unfold State.classifyNext
  split
  · exact h
  · exact h.after_classify p _ _

/-- R107: a drop is counted in the measurement record. -/
theorem FlowLaws.after_takeOffer (o : Offer) : FlowLaws (s.takeOffer o).flows := by
  rcases s.takeOffer_cases o with ⟨-, heq⟩ | ⟨-, heq⟩ <;> rw [heq]
  · exact h
  · unfold State.countFlowDrop
    split
    · exact h.after_updFlow id rfl
    · exact h

theorem FlowLaws.after_admitNext (p : PortId) : FlowLaws (s.admitNext p).flows := by
  unfold State.admitNext
  split
  · exact FlowLaws.after_takeOffer (s := s.updPort p _) h _
  · exact h
  · exact h

theorem FlowLaws.after_settleReset : FlowLaws s.settleReset.flows := by
  unfold State.settleReset
  split
  · exact FlowLaws.reset
  · exact h

end Rows

/-! ### The flow commands (R87 to R93, R108) -/

section FlowCommands

variable {s : State} (h : FlowLaws s.flows) (p : List Byte)

include h

/-- R87: the checks hold the join gap to 1 or more, and the owner refuses a reserved and a repeated flow ID. -/
theorem FlowLaws.after_runFlowWrite : FlowLaws (runFlowWrite p s).1.flows := by
  rcases checked_cases 16 (flowWriteChecks p) p s (s.flowWrite (flowIndexOf (par p 0)) (flowTermsOf p)) with
    ⟨heq, hgood⟩ | ⟨off, heq⟩ <;> rw [runFlowWrite, heq]
  · obtain ⟨-, hchecks⟩ := badOffset_eq_none.mp hgood
    have hgap : 1 ≤ (par p 8).toNat :=
      of_decide_eq_true (hchecks (8, decide (1 ≤ (par p 8).toNat)) (by simp [flowWriteChecks]))
    unfold State.flowWrite
    split
    · exact h
    · next hreserved =>
      split
      · exact h
      · next hfree =>
        refine h.updateAt_of_written hreserved hfree fun hzero => ?_
        rw [show par p 8 = 0#8 from hzero] at hgap
        exact absurd hgap (by decide)
  · exact h

/-- R93: the counts stand in the measurement record. -/
theorem FlowLaws.after_runFlowRead : FlowLaws (runFlowRead p s).1.flows := by
  refine checked_keeps (P := fun u => FlowLaws u.flows) h ?_
  unfold State.flowRead
  split
  · exact h.after_updFlow id rfl
  · exact h

/-- R90: a record that is no longer valid is under no law. -/
theorem FlowLaws.after_runFlowClear : FlowLaws (runFlowClear p s).1.flows :=
  checked_keeps (P := fun u => FlowLaws u.flows) h (h.after_updFlow nofun rfl)

/-- R108: rearming changes the measurement record alone. -/
theorem FlowLaws.after_runFlowRearm : FlowLaws (runFlowRearm p s).1.flows := by
  refine checked_keeps (P := fun u => FlowLaws u.flows) h ?_
  unfold State.flowRearm
  split
  · exact h.after_updFlow id rfl
  · exact h

end FlowCommands

/-! ### The commands that leave the flow table alone -/

section OtherCommands

variable (p : List Byte) (s : State)

/-- R147: parameters that fail leave the part alone, so the flow table is as the owner leaves it. -/
theorem checked_flows {need : Nat} {checks : List (Nat × Bool)} {p : List Byte} {s : State} {owner : State × Answer}
    (h : owner.1.flows = s.flows) : (checked need checks p s owner).1.flows = s.flows :=
  checked_keeps (P := fun u => u.flows = s.flows) rfl h

theorem runEcho_flows : (runEcho p s).1.flows = s.flows := by
  unfold runEcho; split <;> rfl

theorem runStatus_flows : (runStatus p s).1.flows = s.flows :=
  checked_flows (by unfold State.clearDrops; split <;> rfl)

theorem runPlanWrite_flows : (runPlanWrite p s).1.flows = s.flows := by
  unfold runPlanWrite
  split
  · rfl
  · unfold State.planWrite; split <;> rfl

theorem runPlanLength_flows : (runPlanLength p s).1.flows = s.flows :=
  checked_flows (by unfold State.planLength; split <;> rfl)

theorem runPlanRead_flows : (runPlanRead p s).1.flows = s.flows :=
  checked_flows rfl

theorem runPlanCommit_flows : (runPlanCommit p s).1.flows = s.flows := by
  refine checked_flows ?_
  unfold State.planCommit
  split_ifs
  · rfl
  · rfl
  · split <;> rfl

theorem runPlanWithdraw_flows : (runPlanWithdraw p s).1.flows = s.flows :=
  checked_flows (by unfold State.planWithdraw; split <;> rfl)

theorem runSchedStart_flows : (runSchedStart p s).1.flows = s.flows := by
  refine checked_flows ?_
  unfold State.schedStart
  split
  · rfl
  · split <;> rfl

theorem runSchedStop_flows : (runSchedStop p s).1.flows = s.flows := by
  unfold runSchedStop; split <;> rfl

theorem runExcursionEnd_flows : (runExcursionEnd p s).1.flows = s.flows := by
  unfold runExcursionEnd; split <;> rfl

theorem runClassSet_flows : (runClassSet p s).1.flows = s.flows :=
  checked_flows (by unfold State.classSet; split <;> rfl)

theorem runClassRead_flows : (runClassRead p s).1.flows = s.flows :=
  checked_flows (by unfold State.classRead; split <;> rfl)

theorem runClassFlush_flows : (runClassFlush p s).1.flows = s.flows :=
  checked_flows rfl

theorem runRelaySet_flows : (runRelaySet p s).1.flows = s.flows :=
  checked_flows rfl

theorem runPortSet_flows : (runPortSet p s).1.flows = s.flows :=
  checked_flows (by unfold State.portSet State.setPort; split <;> simp)

theorem runPortRead_flows : (runPortRead p s).1.flows = s.flows := by
  refine checked_flows ?_
  split
  · unfold State.readTrunk; split <;> split <;> rfl
  · unfold State.readStation; split <;> split <;> rfl

theorem runNoticeSet_flows : (runNoticeSet p s).1.flows = s.flows :=
  checked_flows rfl

end OtherCommands

/-! ### The rows of the engine and the resets -/

/-- R148: a command whose owner keeps the laws keeps them. -/
theorem FlowLaws.after_takeCommand {row : Option CommandCode} {run : List Byte → State → State × Answer}
    (hrun : ∀ p u, FlowLaws u.flows → FlowLaws (run p u).1.flows) {s : State} (h : FlowLaws s.flows) :
    FlowLaws (s.takeCommand row run).flows :=
  State.takeCommand_keeps (P := fun u => FlowLaws u.flows) (fun _ _ hu => hu) hrun h

/-- R148: a command whose owner leaves the flow table alone keeps the laws. -/
theorem FlowLaws.after_takeCommand_of_flows {row : Option CommandCode} {run : List Byte → State → State × Answer}
    (hrun : ∀ p u, (run p u).1.flows = u.flows) {s : State} (h : FlowLaws s.flows) :
    FlowLaws (s.takeCommand row run).flows :=
  h.after_takeCommand fun p u hu => hu.of_flows_eq (hrun p u)

section ResetRows

variable {s t : State} {straps : BitVec 6} {rate : Bool}

/-- R171: the end of the 2 ms of a power-on reset. -/
theorem flows_of_powerOnResetEnd (hx : exec (.powerOnResetEnd straps rate) s = .next t) :
    t.flows = s.flows ∨ t.flows = State.reset.flows := by
  obtain rfl := Host.Outcome.next.inj hx
  split
  · unfold State.powerUpOver
    split
    · exact .inr rfl
    · exact .inl rfl
  · exact .inl rfl
  · exact .inl rfl
  · exact .inl rfl

/-- R171: a low pulse on RESET_N. -/
theorem flows_of_pinReset {ns : Nat} (hx : exec (.pinReset ns) s = .next t) :
    t.flows = s.flows ∨ t.flows = State.reset.flows := by
  obtain rfl := Host.Outcome.next.inj hx
  split
  · exact .inl rfl
  · unfold State.assertResetPin
    split
    · exact .inr rfl
    · exact .inl rfl

/-- R171: the release of RESET_N. -/
theorem flows_of_pinResetEnd (hx : exec (.pinResetEnd straps rate) s = .next t) :
    t.flows = s.flows ∨ t.flows = State.reset.flows := by
  obtain rfl := Host.Outcome.next.inj hx
  split
  · exact .inr rfl
  · exact .inl rfl
  · exact .inr rfl
  · exact .inl rfl

/-- R156: the management reset. -/
theorem flows_of_managementReset (hx : exec .managementReset s = .next t) :
    t.flows = s.flows ∨ t.flows = State.reset.flows := by
  obtain rfl := Host.Outcome.next.inj hx
  split
  · exact .inr rfl
  · exact .inl rfl

end ResetRows

/-! ### Every row -/

/-- R172: what a running part keeps of the laws, the row keeps. -/
theorem FlowLaws.of_running {u s : State} {b : Bool} (hs : FlowLaws s.flows) (hu : FlowLaws u.flows) :
    FlowLaws (if b then u else s).flows := by
  split
  · exact hu
  · exact hs

/-- R41: of a slot start, only a management reset that has fallen due changes the table. -/
theorem FlowLaws.after_slotStart {s t : State} (h : FlowLaws s.flows) (hx : exec .slotStart s = .next t) :
    FlowLaws t.flows := by
  obtain rfl := Host.Outcome.next.inj hx
  refine h.of_running ?_
  rw [State.startSlotApart, State.serve_flows, State.beginSlotApart_flows]
  exact (h.of_flows_eq s.takeHanded_flows).after_settleReset

theorem FlowLaws.after_cycleBoundary {s t : State} (h : FlowLaws s.flows) (hx : exec .cycleBoundary s = .next t) :
    FlowLaws t.flows := by
  obtain rfl := Host.Outcome.next.inj hx
  split_ifs
  · exact h.of_flows_eq s.takeHanded_flows
  · exact h.of_flows_eq ((State.serve_flows _ _).trans s.beginSlot_flows)
  · exact h
  · exact h

/-- R77, R78: every row keeps the laws of the flow table. A reset makes them anew; a classification, an admission and
the flow commands keep them, and every other row leaves the table alone. -/
theorem FlowLaws.after_exec (i : Instr) (s t : State) (h : FlowLaws s.flows) (hx : exec i s = .next t) :
    FlowLaws t.flows := by
  cases i <;> obtain rfl := Host.Outcome.next.inj hx
  case powerOnReset => exact FlowLaws.reset
  case powerOnResetEnd => exact h.of_flows_eq_or_reset (flows_of_powerOnResetEnd hx)
  case pinReset => exact h.of_flows_eq_or_reset (flows_of_pinReset hx)
  case pinResetEnd => exact h.of_flows_eq_or_reset (flows_of_pinResetEnd hx)
  case managementReset => exact h.of_flows_eq_or_reset (flows_of_managementReset hx)
  case slotStart => exact h.after_slotStart hx
  case cycleBoundary => exact h.after_cycleBoundary hx
  case stationCellReceive p bytes => exact h.of_running (h.of_flows_eq (s.receiveAt_flows p bytes))
  case stationSignalGained p =>
    exact FlowLaws.of_running (s := s.setStationLine p true) h (h.of_flows_eq (State.gainSignal_flows _ p))
  case stationSignalLost p =>
    exact FlowLaws.of_running (s := s.setStationLine p false) h (h.of_flows_eq (State.loseSignal_flows _ p))
  case stationTransmit p => exact h.of_running (h.of_flows_eq (s.updPort_flows p _))
  case upstreamClassification p => exact h.of_running (h.after_classifyNext p)
  case cellAdmission p => exact h.of_running (h.after_admitNext p)
  case trunkCellReceive => exact h.of_running (h.of_flows_eq (s.setTrunk_flows _))
  case trunkSignalChange up =>
    exact FlowLaws.of_running (s := s.setTrunkLine up) h (h.of_flows_eq (State.changeTrunkSignal_flows _ up))
  case downstreamForward => exact h.of_running (h.of_flows_eq s.forwardNext_flows)
  case badCommand => exact h.after_takeCommand_of_flows fun _ _ => rfl
  case echo => exact h.after_takeCommand_of_flows runEcho_flows
  case identify => exact h.after_takeCommand_of_flows fun _ _ => rfl
  case status => exact h.after_takeCommand_of_flows runStatus_flows
  case planWrite => exact h.after_takeCommand_of_flows runPlanWrite_flows
  case planLength => exact h.after_takeCommand_of_flows runPlanLength_flows
  case planRead => exact h.after_takeCommand_of_flows runPlanRead_flows
  case planCommit => exact h.after_takeCommand_of_flows runPlanCommit_flows
  case planWithdraw => exact h.after_takeCommand_of_flows runPlanWithdraw_flows
  case schedStart => exact h.after_takeCommand_of_flows runSchedStart_flows
  case schedStop => exact h.after_takeCommand_of_flows runSchedStop_flows
  case excursionEnd => exact h.after_takeCommand_of_flows runExcursionEnd_flows
  case flowWrite => exact h.after_takeCommand fun p _ hu => hu.after_runFlowWrite p
  case flowRead => exact h.after_takeCommand fun p _ hu => hu.after_runFlowRead p
  case flowClear => exact h.after_takeCommand fun p _ hu => hu.after_runFlowClear p
  case flowRearm => exact h.after_takeCommand fun p _ hu => hu.after_runFlowRearm p
  case classSet => exact h.after_takeCommand_of_flows runClassSet_flows
  case classRead => exact h.after_takeCommand_of_flows runClassRead_flows
  case classFlush => exact h.after_takeCommand_of_flows runClassFlush_flows
  case relaySet => exact h.after_takeCommand_of_flows runRelaySet_flows
  case portSet => exact h.after_takeCommand_of_flows runPortSet_flows
  case portRead => exact h.after_takeCommand_of_flows runPortRead_flows
  case noticeSet => exact h.after_takeCommand_of_flows runNoticeSet_flows
  case partReset => exact h.after_takeCommand_of_flows fun _ _ => rfl

/-- Settles O58, row by row. -/
theorem everyStepKeepsTheFlowTableUnique : Obligations.EveryStepKeepsTheFlowTableUnique :=
  fun _ _ hs h => step_keeps (P := fun u => FlowLaws u.flows) (fun _ _ hu => hu) FlowLaws.after_exec hs h

end Sys2Proof.Machine
end

section
/-! PROOFS. Classification (R80 to R84): what UPSTREAM_CLASSIFICATION answers for an unknown flow, a misrouted cell, and
a cell that is measured and policed. -/

namespace Sys2Proof.Machine

open Sys2Proof.Claims

/-- An update says only what becomes of the value that stands at its place. -/
theorem updateAt_congr {α : Type} {n : Nat} {v : Vector α n} {i : Fin n} {f g : α → α} (h : f v[i] = g v[i]) :
    updateAt v i f = updateAt v i g := by
  rw [updateAt, updateAt, h]

/-! ### The row (R63, R80) -/

section Row

variable {s : State} {p : PortId} {before : List Offer} {c : BufCell} {t : Word32} {rest : List HandOff}

/-- R80: classification leaves the hand-off lists alone. -/
theorem State.classify_handoff : (s.classify p c t).1.ports[p].handoff = s.ports[p].handoff := by
  rcases s.classify_cases p c t with ⟨-, heq⟩ | ⟨i, -, -, -, heq⟩ | ⟨i, -, -, -, heq⟩ <;> rw [heq]
  · simp [State.unknownFlow]
  · simp [State.misroute]
  · simp [State.measureFlow]

/-- R63, R80: the row classifies the cell behind the waiting offers; the offer that results stands in its place, and a
dropped cell leaves the list. -/
theorem exec_upstreamClassification_of_classify {u : State} {result : Option Offer} (hphase : s.phase = .running)
    (hwait : s.ports[p].handoff = before.map .offer ++ .classify c t :: rest)
    (hclass : s.classify p c t = (u, result)) :
    exec (.upstreamClassification p) s =
      .next (u.updPort p (fun pt =>
        { pt with handoff := before.map .offer ++ settleFirst result (.classify c t :: rest) })) := by
  have hfirst : firstUnclassified s.ports[p].handoff = some (c, t) := by
    rw [hwait, firstUnclassified_offers, firstUnclassified]
  have hlist : u.ports[p].handoff = before.map .offer ++ .classify c t :: rest := by
    have hkept := State.classify_handoff (s := s) (p := p) (c := c) (t := t)
    rwa [hclass, hwait] at hkept
  refine congrArg Host.Outcome.next ((if_pos (State.running_of_phase hphase)).trans ?_)
  simp only [State.classifyNext, hfirst, hclass]
  refine congrArg u.setPorts (updateAt_congr ?_)
  rw [hlist, settleFirst_offers]

/-- R82, R83: the row of a cell that is only counted on its arrival port. -/
theorem exec_upstreamClassification_of_counted {f : PortCounters → PortCounters} {result : Option Offer}
    (hphase : s.phase = .running) (hwait : s.ports[p].handoff = before.map .offer ++ .classify c t :: rest)
    (hclass : s.classify p c t = (s.countPort p f, result)) :
    exec (.upstreamClassification p) s =
      .next { s with ports := updateAt s.ports p (fun pt =>
        { pt with
          counters := f pt.counters
          handoff := before.map .offer ++ settleFirst result (.classify c t :: rest) }) } := by
  rw [exec_upstreamClassification_of_classify hphase hwait hclass, State.updPort, State.countPort_ports,
    updateAt_updateAt]
  rfl

end Row

/-! ### The flow of a cell (R81, R83) -/

section Lookup

variable {s : State} {p : PortId} {c : BufCell} {i : FlowIndex}

/-- R81: no valid record with upstream enabled set carries the flow ID. -/
theorem State.classify_of_unknown
    (h : ∀ i : FlowIndex, s.flows[i].valid = true → s.flows[i].terms.flowId = c.flowId →
      s.flows[i].terms.upstream = false) (t : Word32) :
    s.classify p c t = s.unknownFlow p c := by
  have hnot {i : FlowIndex} (hi : lookupFlow s.flows c.flowId = some i) : s.flows[i].terms.upstream ≠ true := by
    obtain ⟨hvalid, hid⟩ := lookupFlow_valid hi
    exact Bool.eq_false_iff.mp (h i hvalid hid)
  rcases s.classify_cases p c t with ⟨-, heq⟩ | ⟨i, hi, hup, -⟩ | ⟨i, hi, hup, -⟩
  · exact heq
  · exact absurd hup (hnot hi)
  · exact absurd hup (hnot hi)

variable (hi : lookupFlow s.flows c.flowId = some i) (hup : s.flows[i].terms.upstream = true)

include hi hup

/-- R83: the record's source port is another than the arrival port. -/
theorem State.classify_of_misrouted (hp : s.flows[i].terms.sourcePort ≠ p) (t : Word32) :
    s.classify p c t = s.misroute p := by
  simp only [State.classify, hi, hup, hp, Bool.not_true, Bool.false_eq_true, ne_eq, not_false_eq_true, if_true,
    if_false]

/-- R84: the cell passes the source-port check. -/
theorem State.classify_of_routed (hp : s.flows[i].terms.sourcePort = p) (t : Word32) :
    s.classify p c t = s.measureFlow i c t := by
  simp only [State.classify, hi, hup, hp, Bool.not_true, Bool.false_eq_true, ne_eq, not_true_eq_false, if_false]

end Lookup

/-- Settles O27: the two policies of an unknown flow, then the misrouted cell. -/
theorem unknownAndMisroutedCells : Obligations.UnknownAndMisroutedCells := by
  intro s p before c t rest hphase hwait
  refine ⟨fun hunknown => ?_, fun i hlaws hvalid hid hup hport => ?_⟩
  · have hclass := State.classify_of_unknown (p := p) hunknown t
    rw [exec_upstreamClassification_of_counted hphase hwait hclass]
    refine congrArg (fun v => Host.Outcome.next (s.setPorts v)) (updateAt_congr ?_)
    rw [Port.unknownOffer]
    cases s.ports[p].policy with
    | discard => rfl
    | forward => rfl
  · have hi := lookupFlow_eq_some hlaws hvalid hid
    exact exec_upstreamClassification_of_counted hphase hwait (State.classify_of_misrouted hi hup hport t)

/-! ### Measurement and policing (R84, R97, R102, R106) -/

section Measuring

variable {s : State} {p : PortId} {before : List Offer} {c : BufCell} {t : Word32} {rest : List HandOff}
  {i : FlowIndex} {r : FlowRecord} {reason : Reason} {value : Word32}

/-- R102: a conforming arrival is counted, and the armed flag stays. -/
theorem FlowRecord.afterArrival_of_conforming (h : r.verdict t = .conforming) :
    r.afterArrival i t =
      { r with meas :=
        { r.measured t with conforming := satAdd (r.measured t).conforming 1, armed := r.meas.armed } } := by
  rw [FlowRecord.afterArrival, h]
  rfl

/-- R106: an armed record with notify enable set posts the violation. -/
theorem FlowRecord.violation_of_armed (h : r.terms.notifyEnable = true ∧ r.meas.armed = true) :
    r.violation i (.nonConforming reason value) = some (.flowViolation i r.terms.flowId reason value) :=
  if_pos (Bool.and_eq_true_iff.mpr h)

/-- R106: any other record posts nothing. -/
theorem FlowRecord.violation_of_not_armed (h : ¬ (r.terms.notifyEnable = true ∧ r.meas.armed = true)) :
    r.violation i (.nonConforming reason value) = none :=
  if_neg (h ∘ Bool.and_eq_true_iff.mp)

/-- R102, R106: a non-conforming arrival is counted, and disarms the record when it posts its notice. -/
theorem FlowRecord.afterArrival_of_nonConforming (h : r.verdict t = .nonConforming reason value) :
    r.afterArrival i t =
      { r with meas :=
        { r.measured t with
          nonConforming := satAdd (r.measured t).nonConforming 1
          armed := if r.terms.notifyEnable = true ∧ r.meas.armed = true then false else r.meas.armed } } := by
  rw [FlowRecord.afterArrival, h]
  by_cases harmed : r.terms.notifyEnable = true ∧ r.meas.armed = true
  · rw [FlowRecord.violation_of_armed harmed, if_pos harmed]
    rfl
  · rw [FlowRecord.violation_of_not_armed harmed, if_neg harmed]
    rfl

/-- R106: a non-conforming arrival reaches the notice unit when the record is armed and notify enable is set. -/
theorem State.postIf_violation :
    s.postIf (r.violation i (.nonConforming reason value)) =
      s.setNu (if r.terms.notifyEnable = true ∧ r.meas.armed = true then
        posted s s.sched.slotClock (.flowViolation i r.terms.flowId reason value) else s.nu) := by
  by_cases harmed : r.terms.notifyEnable = true ∧ r.meas.armed = true
  · rw [FlowRecord.violation_of_armed harmed, if_pos harmed]
    exact s.post_eq_setNu_posted _
  · rw [FlowRecord.violation_of_not_armed harmed, if_neg harmed]
    rfl

/-- R84, R97: the row of a cell that is measured: the record after the arrival, what the notice unit makes of it, and
the offer that policing leaves. -/
theorem exec_upstreamClassification_of_measured {verdict : Verdict} {f : FlowRecord → FlowRecord} {n : NoticeUnit}
    {offered : List HandOff} (hphase : s.phase = .running)
    (hwait : s.ports[p].handoff = before.map .offer ++ .classify c t :: rest)
    (hclass : s.classify p c t = s.measureFlow i c t) (hverdict : s.flows[i].verdict t = verdict)
    (hrecord : s.flows[i].afterArrival i t = f s.flows[i])
    (hnotice : (s.updFlow i f).postIf (s.flows[i].violation i verdict) = (s.updFlow i f).setNu n)
    (hoffer : settleFirst (s.flows[i].policed i c verdict) (.classify c t :: rest) = offered) :
    exec (.upstreamClassification p) s =
      .next { s with
        flows := updateAt s.flows i f
        nu := n
        ports := updateAt s.ports p (fun pt => { pt with handoff := before.map .offer ++ offered }) } := by
  have hflow : s.updFlow i (fun x => x.afterArrival i t) = s.updFlow i f :=
    congrArg s.setFlows (updateAt_congr hrecord)
  have hmeasured : s.classify p c t = ((s.updFlow i f).setNu n, s.flows[i].policed i c verdict) := by
    rw [hclass, State.measureFlow, hverdict, hflow, hnotice]
  rw [exec_upstreamClassification_of_classify hphase hwait hmeasured, hoffer]
  rfl

end Measuring

/-- Settles O28: the row measures and polices the cell, by the verdict and the record's policing action. -/
theorem knownFlowsAreMeasuredAndPoliced : Obligations.KnownFlowsAreMeasuredAndPoliced := by
  intro s p before c t rest i hphase hwait hlaws hvalid hid hup hport r m
  have hclass := State.classify_of_routed (lookupFlow_eq_some hlaws hvalid hid) hup hport t
  refine ⟨fun hverdict => ?_, fun reason value hverdict => ?_⟩
  · have hrecord := FlowRecord.afterArrival_of_conforming (i := i) hverdict
    exact exec_upstreamClassification_of_measured hphase hwait hclass hverdict hrecord rfl rfl
  · have hrecord := FlowRecord.afterArrival_of_nonConforming (i := i) hverdict
    refine exec_upstreamClassification_of_measured hphase hwait hclass hverdict hrecord State.postIf_violation ?_
    rw [FlowRecord.policed]
    cases r.terms.action with
    | measure => rfl
    | demote => rfl
    | discard => rfl

end Sys2Proof.Machine
end

section
/-! PROOFS. The flow commands FLOW_WRITE, FLOW_READ, FLOW_CLEAR and FLOW_REARM (R78, R87 to R93, R96, R108, R160), each
answered for a fresh command. -/

namespace Sys2Proof.Machine

open Sys2Proof.Claims

/-! ### The answer of the flow classifier to a command (R148) -/

/-- R148, R149: an answer after an effect on one flow record alone. -/
theorem State.takeCommand_eq_updFlow {s : State} {c : Command} {rest : List Command} {code : CommandCode}
    {run : List Byte → State → State × Answer} {i : FlowIndex} {f : FlowRecord → FlowRecord} {a : Answer}
    (h : Fresh s c rest code) (hrun : run c.params (s.taken rest) = ((s.taken rest).updFlow i f, a)) :
    s.takeCommand (some code) run =
      { s with
        flows := updateAt s.flows i f, me := engineAfter s c rest s.sched.cycle a.status a.detail a.data } := by
  rw [State.takeCommand_eq_answer h, hrun]
  rfl

/-! ### Numbers and their bytes (R158: most significant first) -/

/-- The value of a concatenation. -/
theorem toNat_append_eq {m n : Nat} (x : BitVec m) (y : BitVec n) : (x ++ y).toNat = x.toNat * 2 ^ n + y.toNat := by
  rw [BitVec.toNat_append, ← Nat.shiftLeft_add_eq_or_of_lt y.isLt, Nat.shiftLeft_eq]

/-- The three bytes of a number, read back. -/
theorem read24_of_bytes {p : List Byte} {i : Nat} {x : BitVec 24} (hhigh : p.getD i 0#8 = x.extractLsb' 16 8)
    (hmid : p.getD (i + 1) 0#8 = x.extractLsb' 8 8) (hlow : p.getD (i + 2) 0#8 = x.extractLsb' 0 8) :
    read24 p i = x := by
  rw [read24, hhigh, hmid, hlow]
  refine BitVec.eq_of_toNat_eq ?_
  simp only [toNat_append_eq, BitVec.extractLsb'_toNat, Nat.shiftRight_eq_div_pow]
  omega

/-- The two bytes of a flow ID, read back as 16 bits. -/
theorem read16_of_flowId {p : List Byte} {i : Nat} {x : BitVec 12} (hhigh : p.getD i 0#8 = 0#4 ++ x.extractLsb' 8 4)
    (hlow : p.getD (i + 1) 0#8 = x.extractLsb' 0 8) : read16 p i = x.setWidth 16 := by
  rw [read16, hhigh, hlow]
  refine BitVec.eq_of_toNat_eq ?_
  simp only [toNat_append_eq, BitVec.extractLsb'_toNat, BitVec.toNat_setWidth, BitVec.toNat_ofNat,
    Nat.shiftRight_eq_div_pow]
  omega

/-! ### The parameters of FLOW_WRITE (R87, R160) -/

/-- R160: the 16 parameter bytes that carry an index and the fields of a flow record. -/
def FlowTerms.bytes (t : FlowTerms) (i : FlowIndex) : List Byte :=
  [BitVec.ofNat 8 i.val, 0#4 ++ t.flowId.extractLsb' 8 4, t.flowId.extractLsb' 0 8, flagByte t.upstream,
    BitVec.ofNat 8 t.sourcePort.val, BitVec.ofNat 8 t.cls.val, t.action.code, BitVec.ofNat 8 t.demoteClass.val,
    t.joinGap, t.burstLimit.extractLsb' 8 8, t.burstLimit.extractLsb' 0 8, t.minGap.extractLsb' 16 8,
    t.minGap.extractLsb' 8 8, t.minGap.extractLsb' 0 8, flagByte t.notifyEnable, 0#4 ++ t.mask]

section Parameters

variable (t : FlowTerms) (i : FlowIndex) (q : List Byte)

/-- R160: the fields are read back. -/
theorem flowTermsOf_bytes : flowTermsOf (t.bytes i ++ q) = t := by
  have hid : read16 (t.bytes i ++ q) 1 = t.flowId.setWidth 16 := read16_of_flowId rfl rfl
  have hburst : read16 (t.bytes i ++ q) 9 = t.burstLimit := read16_of_bytes rfl rfl
  have hgap : read24 (t.bytes i ++ q) 11 = t.minGap := read24_of_bytes rfl rfl rfl
  rw [flowTermsOf, hid, hburst, hgap, BitVec.setWidth_setWidth_of_le _ (by decide), BitVec.setWidth_eq]
  change FlowTerms.mk t.flowId (flagByte t.upstream == 1#8) (portOf (BitVec.ofNat 8 t.sourcePort.val))
    (classOf (BitVec.ofNat 8 t.cls.val)) (policingOf t.action.code) (classOf (BitVec.ofNat 8 t.demoteClass.val))
    t.joinGap t.burstLimit t.minGap (flagByte t.notifyEnable == 1#8) ((0#4 ++ t.mask).extractLsb' 0 4) = t
  simp only [flagByte_beq_one, portOf_ofNat, classOf_ofNat, policingOf_code, BitVec.extractLsb'_append_eq_right]

theorem isBelow_policingCode (a : Policing) : isBelow 3 a.code = true := by
  cases a <;> rfl

/-- R87: every field but a join gap of 0 is in range. -/
theorem badOffset_flowWriteChecks_bytes (hgap : t.joinGap ≠ 0#8) :
    badOffset 16 (flowWriteChecks (t.bytes i ++ q)) (t.bytes i ++ q) = none := by
  have hid : (read16 (t.bytes i ++ q) 1).toNat ≤ 4095 := by
    rw [read16_of_flowId (x := t.flowId) rfl rfl, BitVec.toNat_setWidth]
    omega
  have hjoin : 1 ≤ t.joinGap.toNat := Nat.one_le_iff_ne_zero.mpr fun h => hgap (BitVec.eq_of_toNat_eq h)
  have hmask : (0#4 ++ t.mask).toNat < 16 := by
    rw [toNat_append_eq, BitVec.toNat_ofNat]
    omega
  refine badOffset_eq_none.mpr ⟨by simp [FlowTerms.bytes], ?_⟩
  simp only [flowWriteChecks, List.forall_mem_cons, List.not_mem_nil, false_imp_iff, implies_true, and_true]
  exact ⟨decide_eq_true hid, isFlag_flagByte _, isBelow_ofNat t.sourcePort (by decide), isBelow_ofNat t.cls (by decide),
    isBelow_policingCode _, isBelow_ofNat t.demoteClass (by decide), decide_eq_true hjoin, isFlag_flagByte _,
    decide_eq_true hmask⟩

/-- R87: FLOW_WRITE with its parameters in range reaches the flow classifier. -/
theorem runFlowWrite_of_bytes {p : List Byte} (hp : p.take 16 = t.bytes i) (hgap : t.joinGap ≠ 0#8) (s : State) :
    runFlowWrite p s = s.flowWrite i t := by
  obtain ⟨q, rfl⟩ : ∃ q, p = t.bytes i ++ q := ⟨p.drop 16, by rw [← hp, List.take_append_drop]⟩
  rw [runFlowWrite, checked_of_none (badOffset_flowWriteChecks_bytes t i q hgap), flowTermsOf_bytes]
  exact congrArg (s.flowWrite · t) (flowIndexOf_ofNat i)

end Parameters

/-! ### FLOW_WRITE (R87, R88) -/

section Write

variable (s : State) {t : FlowTerms} {i j : FlowIndex}

/-- R78, R87: in a table without repeated flow IDs, the duplicate test finds the one other record that carries
the ID. -/
theorem duplicateFlow_eq_some {v : Vector FlowRecord 256} {id : BitVec 12} (hlaws : FlowLaws v) (hj : j ≠ i)
    (hvalid : v[j].valid = true) (hid : v[j].terms.flowId = id) : duplicateFlow v i id = some j := by
  cases h : duplicateFlow v i id with
  | none => exact absurd hid (duplicateFlow_eq_none.mp h j hj hvalid)
  | some k =>
    obtain ⟨-, hk, hkid⟩ := duplicateFlow_other h
    rw [hlaws.unique j k hvalid hk (hid.trans hkid.symm)]

/-- R87: a reserved flow ID. -/
theorem State.flowWrite_of_reserved (h : t.flowId = 0#12 ∨ t.flowId = 4095#12) :
    s.flowWrite i t = (s, .refuse .reservedFlow 0#8) :=
  if_pos h

/-- R87: a flow ID that another valid record carries. -/
theorem State.flowWrite_of_duplicate (h : ¬ (t.flowId = 0#12 ∨ t.flowId = 4095#12))
    (hdup : duplicateFlow s.flows i t.flowId = some j) :
    s.flowWrite i t = (s, { status := .duplicateFlow, detail := 0#8, data := [indexByte j] }) := by
  simp only [State.flowWrite, h, hdup, if_false]

/-- R87, R88: a free flow ID. -/
theorem State.flowWrite_of_free (h : ¬ (t.flowId = 0#12 ∨ t.flowId = 4095#12))
    (hfree : duplicateFlow s.flows i t.flowId = none) :
    s.flowWrite i t =
      (s.updFlow i (fun _ => { valid := true, terms := t, meas := Measurement.armedReset }),
        .ok ([flagByte s.flows[i].valid] ++ be16 (s.flows[i].terms.flowId.setWidth 16))) := by
  simp only [State.flowWrite, h, hfree, if_false]

end Write

/-- Settles O48: the owner's three cases, the parameters being in range. -/
theorem flowWriteReplacesARecord : Obligations.FlowWriteReplacesARecord := by
  intro s c rest t i hfresh hparams hgap
  have hrun := runFlowWrite_of_bytes t i hparams hgap (s.taken rest)
  refine ⟨fun hreserved => congrArg Host.Outcome.next ?_, fun hzero hones => ?_⟩
  · exact State.takeCommand_eq_refused hfresh (hrun.trans ((s.taken rest).flowWrite_of_reserved hreserved))
  · have hallowed := not_or.mpr ⟨hzero, hones⟩
    refine ⟨fun j hlaws hj hvalid hid => congrArg Host.Outcome.next ?_, fun hfree => congrArg Host.Outcome.next ?_⟩
    · have hdup := duplicateFlow_eq_some hlaws hj hvalid hid
      exact State.takeCommand_eq_refused hfresh (hrun.trans ((s.taken rest).flowWrite_of_duplicate hallowed hdup))
    · have hnone := duplicateFlow_eq_none.mpr hfree
      exact State.takeCommand_eq_updFlow hfresh (hrun.trans ((s.taken rest).flowWrite_of_free hallowed hnone))

/-! ### FLOW_READ (R92, R93, R160) -/

/-- R160: the byte of the five flags. -/
theorem flagBits_eq (armed seen notify up valid : Bool) :
    0#3 ++ BitVec.ofBool armed ++ BitVec.ofBool seen ++ BitVec.ofBool notify ++ BitVec.ofBool up ++
        BitVec.ofBool valid =
      BitVec.ofNat 8 ((if valid then 2 ^ 0 else 0) + (if up then 2 ^ 1 else 0) + (if notify then 2 ^ 2 else 0) +
        (if seen then 2 ^ 3 else 0) + (if armed then 2 ^ 4 else 0)) := by
  revert armed seen notify up valid
  decide

/-- R160: the byte of the mask and the source port, bits 3 and 2 being 0 (log entry 25). -/
theorem maskPortBits_eq (mask : BitVec 4) (p : PortId) :
    mask ++ 0#2 ++ BitVec.ofNat 2 p.val = BitVec.ofNat 8 (p.val + 16 * mask.toNat) := by
  refine BitVec.eq_of_toNat_eq ?_
  simp only [toNat_append_eq, BitVec.toNat_ofNat]
  omega

/-- R160: the byte of the two classes, bits 7 and 3 being 0 (log entry 25). -/
theorem classBits_eq (demote k : ClassId) :
    0#1 ++ BitVec.ofNat 3 demote.val ++ 0#1 ++ BitVec.ofNat 3 k.val = BitVec.ofNat 8 (k.val + 16 * demote.val) := by
  refine BitVec.eq_of_toNat_eq ?_
  simp only [toNat_append_eq, BitVec.toNat_ofNat]
  omega

/-- R160: the 40 bytes of a record. -/
theorem FlowRecord.image_eq_flowBytes (r : FlowRecord) : r.image = flowBytes r := by
  rw [FlowRecord.image, flagBits_eq, maskPortBits_eq, classBits_eq]
  rfl

/-- R92, R108, R147: an index, which takes every value, and an option. -/
theorem badOffset_option_eq_none {p : List Byte} (hlen : 2 ≤ p.length) (hoption : (par p 1).toNat ≤ 1) :
    badOffset 2 [(1, isFlag (par p 1))] p = none := by
  rw [badOffset_of_long hlen, isFlag, decide_eq_true hoption]
  rfl

/-- R92: FLOW_READ with its parameters in range reaches the flow classifier. -/
theorem runFlowRead_of_inRange {p : List Byte} {i : FlowIndex} (hlen : 2 ≤ p.length)
    (hindex : par p 0 = BitVec.ofNat 8 i.val) (hoption : (par p 1).toNat ≤ 1) (s : State) :
    runFlowRead p s = s.flowRead i (par p 1 == 1#8) := by
  rw [runFlowRead, checked_of_none (badOffset_option_eq_none hlen hoption), hindex, flowIndexOf_ofNat]

/-! ### FLOW_REARM (R108) -/

section Rearm

variable (s : State) {i : FlowIndex}

theorem State.flowRearm_of_valid (h : s.flows[i].valid = true) (reset : Prop) [Decidable reset] :
    s.flowRearm i (decide reset) =
      (s.updFlow i (fun r =>
          { r with meas := if reset then Measurement.armedReset else { r.meas with armed := true } }),
        .ok ([flagByte s.flows[i].meas.armed] ++ be32 s.flows[i].meas.nonConforming)) := by
  simp only [State.flowRearm, h, if_true, decide_eq_true_eq]

theorem State.flowRearm_of_invalid (h : s.flows[i].valid = false) (reset : Bool) :
    s.flowRearm i reset = (s, .refuse .notValid 0#8) :=
  if_neg (Bool.eq_false_iff.mp h)

/-- R108: FLOW_REARM with its parameters in range reaches the flow classifier. -/
theorem runFlowRearm_of_inRange {p : List Byte} (hlen : 2 ≤ p.length) (hindex : par p 0 = BitVec.ofNat 8 i.val)
    (hoption : (par p 1).toNat ≤ 1) : runFlowRearm p s = s.flowRearm i (decide (par p 1 = 1#8)) := by
  rw [runFlowRearm, checked_of_none (badOffset_option_eq_none hlen hoption), hindex, flowIndexOf_ofNat, beq_eq_decide]

end Rearm

/-- Settles O49: each owner's answer, the report byte by byte and the options by their values. -/
theorem flowReadClearAndRearmAnswer : Obligations.FlowReadClearAndRearmAnswer := by
  intro s c rest i hindex
  refine ⟨fun hfresh hlen => ?_, fun hfresh hlen => congrArg Host.Outcome.next ?_,
    fun hfresh hlen hoption => ?_⟩
  · rw [← FlowRecord.image_eq_flowBytes]
    refine ⟨fun hkeep => congrArg Host.Outcome.next ?_, fun hclear => congrArg Host.Outcome.next ?_⟩
    · have hkeep : par c.params 1 = 0#8 := hkeep
      have hrun := runFlowRead_of_inRange hlen hindex (by simp [hkeep]) (s.taken rest)
      rw [hkeep] at hrun
      exact State.takeCommand_eq_refused hfresh hrun
    · have hclear : par c.params 1 = 1#8 := hclear
      have hrun := runFlowRead_of_inRange hlen hindex (by simp [hclear]) (s.taken rest)
      rw [hclear] at hrun
      exact State.takeCommand_eq_updFlow hfresh hrun
  · have hi : flowIndexOf (par c.params 0) = i := (congrArg flowIndexOf hindex).trans (flowIndexOf_ofNat i)
    have hrun : runFlowClear c.params (s.taken rest) = (s.taken rest).flowClear i := by
      rw [runFlowClear, checked_of_none (badOffset_of_long hlen), hi]
    exact State.takeCommand_eq_updFlow hfresh hrun
  · have hrun := runFlowRearm_of_inRange (s.taken rest) hlen hindex hoption
    refine ⟨fun hinvalid => congrArg Host.Outcome.next ?_, fun hvalid => congrArg Host.Outcome.next ?_⟩
    · exact State.takeCommand_eq_refused hfresh (hrun.trans ((s.taken rest).flowRearm_of_invalid hinvalid _))
    · exact State.takeCommand_eq_updFlow hfresh (hrun.trans ((s.taken rest).flowRearm_of_valid hvalid _))

end Sys2Proof.Machine
end

section
/-! PROOFS. The arrival monitor (R98 to R101, R103, R104): the measures and the verdict of an arrival, by the three cases
of R98. -/

namespace Sys2Proof.Machine

/-! ### Saturating measures (R100, R101, R104) -/

/-- The larger of two measures, as the maximum of their numbers. -/
theorem ite_lt_eq_ofNat_max {w : Nat} (x y : BitVec w) :
    (if x.toNat < y.toNat then y else x) = BitVec.ofNat w (max x.toNat y.toNat) := by
  split
  next h => rw [max_eq_right h.le, BitVec.ofNat_toNat, BitVec.setWidth_eq]
  next h => rw [max_eq_left (not_lt.mp h), BitVec.ofNat_toNat, BitVec.setWidth_eq]

/-- The smaller of two measures, as the minimum of their numbers. -/
theorem ite_lt_eq_ofNat_min {w : Nat} (x y : BitVec w) :
    (if x.toNat < y.toNat then x else y) = BitVec.ofNat w (min y.toNat x.toNat) := by
  split
  next h => rw [min_eq_right h.le, BitVec.ofNat_toNat, BitVec.setWidth_eq]
  next h => rw [min_eq_left (not_lt.mp h), BitVec.ofNat_toNat, BitVec.setWidth_eq]

/-- R104: the largest stored gap fits its 24 bits. -/
theorem storedGap_toNat (d : Word32) : (storedGap d).toNat = min d.toNat 16777215 := by
  rw [storedGap, BitVec.toNat_ofNat, Nat.mod_eq_of_lt (by omega)]

/-- R103: a saturated count, taken as a measured value, by its number. -/
theorem setWidth_satAdd {w v : Nat} (c : BitVec w) (n : Nat) :
    (satAdd c n).setWidth v = BitVec.ofNat v (min (c.toNat + n) (2 ^ w - 1)) := by
  rw [← satAdd_toNat, BitVec.ofNat_toNat]

/-! ### The measures and the verdict by case (R98) -/

section Arrival

variable {r : FlowRecord} {t : Word32}

/-- R99. -/
theorem FlowRecord.measured_of_not_seen (hseen : r.meas.seen = false) : r.measured t = r.meas.first t := by
  simp [FlowRecord.measured, hseen]

/-- R99. -/
theorem FlowRecord.verdict_of_not_seen (hseen : r.meas.seen = false) : r.verdict t = .conforming := by
  simp [FlowRecord.verdict, hseen]

variable (hseen : r.meas.seen = true)

include hseen

section SameBurst

variable (hjoin : (r.meas.since t).toNat ≤ r.terms.joinGap.toNat)

include hjoin

/-- R100. -/
theorem FlowRecord.measured_of_joins : r.measured t = r.meas.joined t := by
  simp [FlowRecord.measured, hseen, hjoin]

/-- R100: the count is judged after its increment. -/
theorem FlowRecord.verdict_of_joins :
    r.verdict t =
      if r.terms.burstLimit ≠ 0#16 ∧ r.terms.burstLimit.toNat < min (r.meas.currentBurst.toNat + 1) 65535 then
        .nonConforming .burst (BitVec.ofNat 32 (min (r.meas.currentBurst.toNat + 1) 65535))
      else .conforming := by
  have hcount : (satAdd r.meas.currentBurst 1).toNat = min (r.meas.currentBurst.toNat + 1) 65535 := satAdd_toNat _ 1
  have hvalue : (satAdd r.meas.currentBurst 1).setWidth 32 =
      BitVec.ofNat 32 (min (r.meas.currentBurst.toNat + 1) 65535) := setWidth_satAdd _ 1
  simp [FlowRecord.verdict, hseen, hjoin, hcount, hvalue]

end SameBurst

section NewBurst

variable (hlate : r.terms.joinGap.toNat < (r.meas.since t).toNat)

include hlate

/-- R101, steps 1, 2 and 4. -/
theorem FlowRecord.measured_of_late : r.measured t = r.meas.renewed t := by
  simp [FlowRecord.measured, hseen, hlate.not_ge]

/-- R101, step 3: the gap is judged as it is, not as it is stored. -/
theorem FlowRecord.verdict_of_late :
    r.verdict t =
      if r.terms.minGap ≠ 0#24 ∧ (r.meas.since t).toNat < r.terms.minGap.toNat then
        .nonConforming .gap (r.meas.since t)
      else .conforming := by
  simp [FlowRecord.verdict, hseen, hlate.not_ge]

end NewBurst

end Arrival

/-- R101, steps 1, 2 and 4, in numbers. -/
theorem Measurement.renewed_eq (m : Measurement) (t : Word32) :
    m.renewed t =
      { m with
        lastBurst := m.currentBurst
        largestBurst := BitVec.ofNat 16 (max m.largestBurst.toNat m.currentBurst.toNat)
        lastGap := BitVec.ofNat 24 (min (m.since t).toNat 16777215)
        smallestGap := BitVec.ofNat 24 (min m.smallestGap.toNat (min (m.since t).toNat 16777215))
        currentBurst := 1#16, lastArrival := t } := by
  rw [Measurement.renewed, ite_lt_eq_ofNat_max, ite_lt_eq_ofNat_min, storedGap_toNat, storedGap]

/-- R100, R101: the condition of a conforming arrival excludes that of a non-conforming one, for either limit. -/
theorem not_limit_broken {w : Nat} {limit : BitVec w} {x y : Nat} (h : limit = 0#w ∨ y ≤ x) :
    ¬ (limit ≠ 0#w ∧ x < y) := by
  rintro ⟨hset, hbroken⟩
  exact h.elim hset hbroken.not_ge

/-- Settles O29, by the three cases of R98: a first arrival, one that joins the burst, one that begins a new burst. -/
theorem arrivalsAreMeasuredInBursts : Obligations.ArrivalsAreMeasuredInBursts := by
  intro r t d count
  refine ⟨fun hseen => ?_, fun hseen hjoin => ?_, fun hseen hlate => ?_⟩
  · exact ⟨FlowRecord.measured_of_not_seen hseen, FlowRecord.verdict_of_not_seen hseen⟩
  · have hverdict := FlowRecord.verdict_of_joins hseen hjoin
    exact ⟨FlowRecord.measured_of_joins hseen hjoin, fun hover => hverdict.trans (if_pos hover),
      fun hwithin => hverdict.trans (if_neg (not_limit_broken hwithin))⟩
  · have hmeasured := (FlowRecord.measured_of_late hseen hlate).trans (r.meas.renewed_eq t)
    have hverdict := FlowRecord.verdict_of_late hseen hlate
    have hvalue : BitVec.ofNat 32 d = r.meas.since t := (BitVec.ofNat_toNat 32 _).trans (BitVec.setWidth_eq _)
    rw [hvalue]
    exact ⟨hmeasured, fun hearly => hverdict.trans (if_pos hearly),
      fun hkept => hverdict.trans (if_neg (not_limit_broken hkept))⟩

end Sys2Proof.Machine
end

section
/-! PROOFS. The station ports (R112 to R121): what a received cell, a change of line signal and a transmit opportunity
make of a port. -/

namespace Sys2Proof.Machine

open Sys2Proof.Claims

section Places

variable {s : State} {p : PortId}

theorem State.running_of_phase_ne (h : s.phase ≠ .running) : s.running = false := by
  simp [State.running, h]

/-- R115: a port is changed and then enters a state: the port changes at its place, and the notice unit takes the
posting. -/
theorem State.updPort_enterPort (f : Port → Port) (st : PortState) (cause : PortCause) :
    (s.updPort p f).enterPort p st cause =
      (s.updPort p fun pt => (f pt).enter st).setNu (posted s s.sched.slotClock (.portState p st cause)) := by
  rw [State.enterPort, State.post_eq_setNu_posted, State.updPort, State.updPort_ports, updateAt_updateAt]
  rfl

/-- A row of a port that changes it as `f` says, where it stands. -/
theorem State.updPort_eq {f g : Port → Port} (h : f s.ports[p] = g s.ports[p]) :
    s.updPort p f = { s with ports := updateAt s.ports p g } :=
  congrArg s.setPorts (updateAt_congr h)

theorem State.updPort_of_eq {f : Port → Port} (h : f s.ports[p] = s.ports[p]) : s.updPort p f = s := by
  rw [State.updPort, updateAt, h, Fin.getElem_fin, Vector.set_getElem_self]
  rfl

/-- The same, with the notice of a change of state. -/
theorem State.updPort_enterPort_eq {f g : Port → Port} {st : PortState} (cause : PortCause)
    (h : (f s.ports[p]).enter st = g s.ports[p]) :
    (s.updPort p f).enterPort p st cause =
      { s with
        ports := updateAt s.ports p g
        nu := posted s s.sched.slotClock (.portState p st cause) } := by
  rw [State.updPort_enterPort, State.updPort_eq h]
  rfl

end Places

/-! ### A cell on a station link (R115 to R118) -/

section Reception

variable {s : State} {p : PortId} {bytes : List Byte} {check : Check} {c : Cell}

theorem exec_stationCellReceive_of_running (h : s.phase = .running) :
    exec (.stationCellReceive p bytes) s = .next (s.receiveAt p bytes) :=
  congrArg Host.Outcome.next (if_pos (State.running_of_phase h))

theorem State.receiveAt_of_good (hactive : s.ports[p].state = .active)
    (hjudge : judge (stationAccepts s.ports[p].relay) bytes = .good c) :
    s.receiveAt p bytes = s.updPort p (fun pt => pt.takeGood s.sched.slotClock c) := by
  simp only [State.receiveAt, hactive, hjudge]

theorem State.receiveAt_of_bad (hactive : s.ports[p].state = .active)
    (hjudge : judge (stationAccepts s.ports[p].relay) bytes = .bad check) :
    s.receiveAt p bytes = s.takeBad p check := by
  simp only [State.receiveAt, hactive, hjudge]

theorem State.receiveAt_of_quarantined (hstate : s.ports[p].state = .quarantined) :
    s.receiveAt p bytes =
      s.updPort p (fun pt => pt.takeQuarantined (judge (stationAccepts s.ports[p].relay) bytes)) := by
  simp only [State.receiveAt, hstate]

/-- R117, R118 (log entry 3). -/
theorem State.receiveAt_of_idle (hstate : s.ports[p].state = .disabled ∨ s.ports[p].state = .waiting) :
    s.receiveAt p bytes = s := by
  rcases hstate with hstate | hstate <;> simp only [State.receiveAt, hstate]

/-- Settles O23, by the kind of the cell. -/
theorem activePortTakesGoodCellsByKind : Obligations.ActivePortTakesGoodCellsByKind := by
  intro s p bytes c hphase hactive hjudge kept
  rw [exec_stationCellReceive_of_running hphase, State.receiveAt_of_good hactive hjudge]
  refine congrArg Host.Outcome.next (State.updPort_eq ?_)
  unfold Port.takeGood
  cases c.kind <;> rfl

/-- R116: the threshold that quarantines. -/
theorem Port.overThreshold_iff {pt : Port} :
    pt.overThreshold = true ↔ pt.threshold ≠ 0#8 ∧ pt.threshold.toNat ≤ pt.streak.toNat := by
  simp [Port.overThreshold]

/-- R116: a threshold of 0, or one that the streak has not reached. -/
theorem Port.not_overThreshold {pt : Port} (h : pt.threshold = 0#8 ∨ pt.streak.toNat < pt.threshold.toNat) :
    ¬ pt.overThreshold = true := fun hover => by
  obtain ⟨hset, hreached⟩ := Port.overThreshold_iff.mp hover
  exact h.elim hset hreached.not_gt

/-- R118: a good IDLE cell. -/
theorem Judged.goodIdle_iff {j : Judged} : j.goodIdle = true ↔ ∃ c, j = .good c ∧ c.kind = .idle := by
  cases j <;> simp [Judged.goodIdle]

/-- Settles O24: an ACTIVE port by its threshold, a QUARANTINED port by what it received, and the other two states. -/
theorem badCellsAndQuarantine : Obligations.BadCellsAndQuarantine := by
  refine ⟨fun s p bytes check hphase hactive hjudge => ?_, fun s p bytes hphase hstate hother => ?_,
    fun s p bytes c hphase hstate hjudge hidle => ?_, fun s p bytes hstate => congrArg Host.Outcome.next ?_⟩
  · intro streak counted
    have hcounted : s.ports[p].counters.countBad check = counted s.ports[p].counters := by cases check <;> rfl
    have hport : s.ports[p].countBad check =
        { s.ports[p] with streak := streak, counters := counted s.ports[p].counters } := by
      rw [Port.countBad, hcounted]
    rw [exec_stationCellReceive_of_running hphase, State.receiveAt_of_bad hactive hjudge, State.takeBad]
    refine ⟨fun hover => congrArg Host.Outcome.next ?_, fun hunder => congrArg Host.Outcome.next ?_⟩
    · rw [if_pos (Port.overThreshold_iff.mpr hover)]
      exact State.updPort_enterPort_eq .errors (congrArg (Port.enter · .quarantined) hport)
    · rw [if_neg (Port.not_overThreshold hunder)]
      exact State.updPort_eq hport
  · have hnot : (judge (stationAccepts s.ports[p].relay) bytes).goodIdle ≠ true := fun hgood => by
      obtain ⟨c, hjudge, hidle⟩ := Judged.goodIdle_iff.mp hgood
      exact hother c hjudge hidle
    rw [exec_stationCellReceive_of_running hphase, State.receiveAt_of_quarantined hstate]
    exact congrArg Host.Outcome.next (State.updPort_eq (if_neg hnot))
  · have hgood := Judged.goodIdle_iff.mpr ⟨c, hjudge, hidle⟩
    rw [exec_stationCellReceive_of_running hphase, State.receiveAt_of_quarantined hstate]
    exact congrArg Host.Outcome.next (State.updPort_of_eq (if_pos hgood))
  · split
    · exact State.receiveAt_of_idle hstate
    · rfl

end Reception

/-! ### Line signal on a station link (R113 to R115, R121) -/

section Signal

variable {s : State} {p : PortId}

theorem exec_stationSignalGained_of_running (h : s.phase = .running) :
    exec (.stationSignalGained p) s = .next ((s.setStationLine p true).gainSignal p) :=
  congrArg Host.Outcome.next (if_pos (State.running_of_phase h))

theorem exec_stationSignalLost_of_running (h : s.phase = .running) :
    exec (.stationSignalLost p) s = .next ((s.setStationLine p false).loseSignal p) :=
  congrArg Host.Outcome.next (if_pos (State.running_of_phase h))

theorem State.gainSignal_of_waiting (h : s.ports[p].state = .waiting) :
    s.gainSignal p = (s.updPort p (fun pt => { pt with signal := true })).enterPort p .active .signalGained := by
  simp only [State.gainSignal, h]

theorem State.gainSignal_of_not_waiting (h : s.ports[p].state ≠ .waiting) :
    s.gainSignal p = s.updPort p (fun pt => { pt with signal := true }) := by
  unfold State.gainSignal
  split
  · next hwaiting => exact absurd hwaiting h
  all_goals rfl

theorem State.loseSignal_of_active (h : s.ports[p].state = .active) :
    s.loseSignal p = (s.updPort p (fun pt => { pt with signal := false })).enterPort p .waiting .signalLost := by
  simp only [State.loseSignal, h]

theorem State.loseSignal_of_not_active (h : s.ports[p].state ≠ .active) :
    s.loseSignal p = s.updPort p (fun pt => { pt with signal := false }) := by
  unfold State.loseSignal
  split
  · next hactive => exact absurd hactive h
  all_goals rfl

/-- Settles O25: each event by whether the port's state turns on it, and by whether a reset is in progress. -/
theorem lineSignalMovesAPort : Obligations.LineSignalMovesAPort := by
  intro s p on off
  refine ⟨fun hphase hwaiting => ?_, fun hphase hstate => ?_, fun hphase hactive => ?_, fun hphase hstate => ?_,
    fun hphase => ⟨?_, ?_⟩⟩
  · rw [exec_stationSignalGained_of_running hphase, State.gainSignal_of_waiting (s := s.setStationLine p true) hwaiting]
    exact congrArg Host.Outcome.next (State.updPort_enterPort_eq (s := s.setStationLine p true) .signalGained rfl)
  · rw [exec_stationSignalGained_of_running hphase,
      State.gainSignal_of_not_waiting (s := s.setStationLine p true) hstate]
    rfl
  · rw [exec_stationSignalLost_of_running hphase, State.loseSignal_of_active (s := s.setStationLine p false) hactive]
    exact congrArg Host.Outcome.next (State.updPort_enterPort_eq (s := s.setStationLine p false) .signalLost rfl)
  · rw [exec_stationSignalLost_of_running hphase, State.loseSignal_of_not_active (s := s.setStationLine p false) hstate]
    rfl
  · exact congrArg Host.Outcome.next (if_neg (Bool.eq_false_iff.mp (State.running_of_phase_ne hphase)))
  · exact congrArg Host.Outcome.next (if_neg (Bool.eq_false_iff.mp (State.running_of_phase_ne hphase)))

end Signal

/-! ### Transmission (R112, R120) -/

section Transmission

variable {pt : Port}

theorem Port.transmit_of_disabled (h : pt.state = .disabled) : pt.transmit = { pt with tx := .silent } := by
  simp only [Port.transmit, h]

theorem Port.transmit_of_empty (h : pt.state ≠ .disabled) (hq : pt.egress = []) :
    pt.transmit = { pt with tx := .sending Cell.idle.wire } := by
  unfold Port.transmit
  split
  · next hdisabled => exact absurd hdisabled h
  all_goals rw [hq]

theorem Port.transmit_of_head {c : Cell} {rest : List Cell} (h : pt.state ≠ .disabled) (hq : pt.egress = c :: rest) :
    pt.transmit =
      { pt with
        tx := .sending c.wire, egress := rest
        counters := { pt.counters with egressTransmitted := satAdd pt.counters.egressTransmitted 1 } } := by
  unfold Port.transmit
  split
  · next hdisabled => exact absurd hdisabled h
  all_goals rw [hq]

end Transmission

/-- Settles O26: the three cases of the port, at its place. -/
theorem stationTransmitsItsHeadOrAnIdleCell : Obligations.StationTransmitsItsHeadOrAnIdleCell := by
  intro s p hphase
  have hexec {f : Port → Port} (hf : s.ports[p].transmit = f s.ports[p]) :
      exec (.stationTransmit p) s = .next { s with ports := updateAt s.ports p f } :=
    congrArg Host.Outcome.next ((if_pos (State.running_of_phase hphase)).trans (State.updPort_eq hf))
  exact ⟨fun hstate => hexec (Port.transmit_of_disabled hstate),
    fun hstate hempty => hexec (Port.transmit_of_empty hstate hempty),
    fun _ _ hstate hhead => hexec (Port.transmit_of_head hstate hhead)⟩

end Sys2Proof.Machine
end


section
/-! PROOFS. The port commands PORT_SET and PORT_READ (R114, R115, R121, R122, R124, R127, R138, R155, R160), each
answered for a fresh command. -/

namespace Sys2Proof.Machine

open Sys2Proof.Claims

/-! ### The state that PORT_SET leaves a port in (R114) -/

section StateAfterSet

variable {pt : Port}

/-- R114: enable clear disables the port. -/
@[simp] theorem Port.stateAfterSet_false : pt.stateAfterSet false = .disabled :=
  rfl

/-- R114: enable set leaves a WAITING or an ACTIVE port. -/
theorem Port.stateAfterSet_of_kept (h : pt.state = .waiting ∨ pt.state = .active) :
    pt.stateAfterSet true = pt.state := by
  rcases h with h | h <;> simp only [Port.stateAfterSet, h, if_true]

/-- R114: enable set moves a DISABLED or a QUARANTINED port by its signal. -/
theorem Port.stateAfterSet_of_moved (h : pt.state = .disabled ∨ pt.state = .quarantined) :
    pt.stateAfterSet true = if pt.signal then .active else .waiting := by
  rcases h with h | h <;> simp only [Port.stateAfterSet, h, if_true]

/-- R114: every enable value and state of a port. -/
theorem Port.stateAfterSet_cases (pt : Port) (enable : Bool) :
    (enable = false ∧ pt.stateAfterSet enable = .disabled) ∨
    (enable = true ∧ (pt.state = .waiting ∨ pt.state = .active) ∧ pt.stateAfterSet enable = pt.state) ∨
    (enable = true ∧ pt.stateAfterSet enable = if pt.signal then .active else .waiting) := by
  cases enable with
  | false => exact .inl ⟨rfl, rfl⟩
  | true =>
    cases hstate : pt.state with
    | disabled => exact .inr (.inr ⟨rfl, Port.stateAfterSet_of_moved (.inl hstate)⟩)
    | waiting => exact .inr (.inl ⟨rfl, .inl rfl, hstate ▸ Port.stateAfterSet_of_kept (.inl hstate)⟩)
    | active => exact .inr (.inl ⟨rfl, .inr rfl, hstate ▸ Port.stateAfterSet_of_kept (.inr hstate)⟩)
    | quarantined => exact .inr (.inr ⟨rfl, Port.stateAfterSet_of_moved (.inr hstate)⟩)

/-- R113: PORT_SET disables a port exactly when enable is clear. -/
theorem Port.stateAfterSet_eq_disabled_iff {enable : Bool} : pt.stateAfterSet enable = .disabled ↔ enable = false := by
  rcases pt.stateAfterSet_cases enable with ⟨rfl, heq⟩ | ⟨rfl, hstate, heq⟩ | ⟨rfl, heq⟩ <;> rw [heq]
  · simp
  · rcases hstate with hstate | hstate <;> simp [hstate]
  · cases pt.signal <;> simp

/-- R114: a port that PORT_SET moves to ACTIVE has signal, and one that it moves to WAITING has none. -/
theorem Port.signal_of_moved {enable : Bool} (hmoved : pt.stateAfterSet enable ≠ pt.state) :
    (pt.stateAfterSet enable = .active → pt.signal = true) ∧
      (pt.stateAfterSet enable = .waiting → pt.signal = false) := by
  rcases pt.stateAfterSet_cases enable with ⟨-, heq⟩ | ⟨-, -, heq⟩ | ⟨-, heq⟩
  · rw [heq]
    exact ⟨nofun, nofun⟩
  · exact absurd heq hmoved
  · rw [heq]
    cases pt.signal <;> simp

end StateAfterSet

/-! ### PORT_SET (R122) -/

section PortSet

variable {s : State} {p : PortId} {t : PortTerms}

/-- R122: PORT_SET with its parameters in range reaches the port. -/
theorem runPortSet_of_inRange {b : List Byte} (hlen : 6 ≤ b.length) (hport : par b 0 = BitVec.ofNat 8 p.val)
    {enable relay : Bool} {policy : UnknownPolicy} {cls : ClassId} (henable : par b 1 = flagByte enable)
    (hrelay : par b 3 = flagByte relay) (hpolicy : par b 4 = policy.code) (hclass : par b 5 = BitVec.ofNat 8 cls.val)
    (s : State) :
    runPortSet b s =
      s.portSet p { enable := enable, threshold := par b 2, relay := relay, policy := policy, unknownClass := cls } := by
  have hgood : badOffset 6 [(0, isBelow 4 (par b 0)), (1, isFlag (par b 1)), (3, isFlag (par b 3)),
      (4, isFlag (par b 4)), (5, isBelow 8 (par b 5))] b = none := by
    simp [badOffset_of_long hlen, hport, henable, hrelay, hpolicy, hclass]
  rw [runPortSet, checked_of_none hgood, portTermsOf, hport, henable, hrelay, hpolicy, hclass, portOf_ofNat,
    classOf_ofNat,
    policyOf_code, flagByte_beq_one, flagByte_beq_one]

section Answer

variable {c : Command} {rest : List Command} {st : PortState} {f : Port → Port} (hfresh : Fresh s c rest .portSet)
  (hrun : runPortSet c.params (s.taken rest) = (s.taken rest).portSet p t)
  (hset : s.ports[p].stateAfterSet t.enable = st)

include hfresh hrun hset

/-- R122: a port that stays in its state: nothing is flushed and nothing posted. -/
theorem exec_portSet_of_kept (hkept : s.ports[p].state = st) (hport : s.ports[p].withTerms t = f s.ports[p]) :
    exec .portSet s =
      .next { s with
        ports := updateAt s.ports p f
        me := okAfter s c rest [st.code, flagByte s.ports[p].signal, BitVec.ofNat 8 0] } := by
  have h : (s.taken rest).ports[p].stateAfterSet t.enable = (s.taken rest).ports[p].state := hset.trans hkept.symm
  refine congrArg Host.Outcome.next ?_
  rw [State.takeCommand_eq_answer hfresh, hrun, State.portSet, State.setPort, Port.flushedBySet, if_pos h, if_pos h,
    State.updPort_eq hport, ← hset]
  rfl

/-- R114, R115, R122: a port that moves to another state, and posts it. -/
theorem exec_portSet_of_moved {n : Nat} (hmoved : s.ports[p].state ≠ st)
    (hflushed : s.ports[p].flushedBySet t.enable = n)
    (hport : ((s.ports[p].withTerms t).clearStreak).enter st = f s.ports[p]) :
    exec .portSet s =
      .next { s with
        ports := updateAt s.ports p f
        nu := posted s s.sched.slotClock (.portState p st .command)
        me := okAfter s c rest [st.code, flagByte s.ports[p].signal, BitVec.ofNat 8 n] } := by
  have h : (s.taken rest).ports[p].stateAfterSet t.enable ≠ (s.taken rest).ports[p].state :=
    fun e => hmoved (e.symm.trans hset)
  refine congrArg Host.Outcome.next ?_
  rw [State.takeCommand_eq_answer hfresh, hrun, State.portSet, State.setPort, if_neg h,
    State.updPort_enterPort_eq (s := s.taken rest) (st := (s.taken rest).ports[p].stateAfterSet t.enable) .command
      (hset ▸ hport), ← hflushed, ← hset]
  rfl

end Answer

/-- R121, R122: the cells that PORT_SET flushes. -/
theorem Port.flushedBySet_of_flushing {pt : Port} {enable : Bool} {st : PortState} (hset : pt.stateAfterSet enable = st)
    (hmoved : pt.state ≠ st) (hst : st = .disabled ∨ st = .waiting) : pt.flushedBySet enable = pt.egress.length := by
  rw [Port.flushedBySet, hset, if_neg hmoved.symm]
  rcases hst with rfl | rfl <;> rfl

theorem Port.flushedBySet_of_active {pt : Port} {enable : Bool} (hset : pt.stateAfterSet enable = .active) :
    pt.flushedBySet enable = 0 := by
  rw [Port.flushedBySet, hset]
  split <;> rfl

/-- Settles O52, by the enable value, the port's state and its signal. -/
theorem portSetMovesThePort : Obligations.PortSetMovesThePort := by
  intro s c rest p enable relay policy cls hfresh hlen hport henable hrelay hpolicy hclass old set answer
  have hrun := runPortSet_of_inRange hlen hport henable hrelay hpolicy hclass (s.taken rest)
  refine ⟨fun he hstate => ?_, fun he hstate hsignal => ?_, fun he hstate hsignal => ?_, fun he hstate => ?_,
    fun he hstate => ?_⟩ <;> subst he
  · exact exec_portSet_of_kept hfresh hrun (Port.stateAfterSet_of_kept hstate) rfl rfl
  · have hset : old.stateAfterSet true = .active := (Port.stateAfterSet_of_moved hstate).trans (if_pos hsignal)
    have hmoved : old.state ≠ .active := by rcases hstate with h | h <;> rw [h] <;> decide
    exact exec_portSet_of_moved hfresh hrun hset hmoved (Port.flushedBySet_of_active hset) rfl
  · have hset : old.stateAfterSet true = .waiting :=
      (Port.stateAfterSet_of_moved hstate).trans (if_neg (Bool.eq_false_iff.mp hsignal))
    have hmoved : old.state ≠ .waiting := by rcases hstate with h | h <;> rw [h] <;> decide
    exact exec_portSet_of_moved hfresh hrun hset hmoved (Port.flushedBySet_of_flushing hset hmoved (.inr rfl)) rfl
  · exact exec_portSet_of_kept hfresh hrun rfl hstate rfl
  · exact exec_portSet_of_moved hfresh hrun rfl hstate (Port.flushedBySet_of_flushing rfl hstate (.inl rfl)) rfl

end PortSet

/-! ### PORT_READ (R124, R127, R138, R155) -/

section PortRead

/-- R152: no station port has the code of port 4. -/
theorem ofNat_port_ne_four (p : PortId) : BitVec.ofNat 8 p.val ≠ 4#8 := by
  revert p
  decide

section Owners

variable (s : State) (p : PortId) (clear : Prop) [Decidable clear]

theorem State.readStation_part0 :
    s.readStation p (decide clear) false =
      (s.setPorts
          (if clear then updateAt s.ports p (fun x => { x with counters := x.counters.clearPart0 }) else s.ports),
        .ok s.ports[p].reportPart0) := by
  by_cases h : clear <;> simp only [h, decide_true, decide_false, if_true, if_false] <;> rfl

theorem State.readStation_part1 :
    s.readStation p (decide clear) true =
      (s.setPorts
          (if clear then updateAt s.ports p (fun x => { x with counters := x.counters.clearPart1 }) else s.ports),
        .ok s.ports[p].reportPart1) := by
  by_cases h : clear <;> simp only [h, decide_true, decide_false, if_true, if_false] <;> rfl

theorem State.readTrunk_part0 :
    s.readTrunk (decide clear) false =
      (s.setTrunk (if clear then s.trunk.clearCounters else s.trunk), .ok s.trunk.report) := by
  by_cases h : clear <;> simp only [h, decide_true, decide_false, if_true, if_false] <;> rfl

theorem State.readTrunk_part1 :
    s.readTrunk (decide clear) true = (s.setDf (if clear then Forwarder.reset else s.df), .ok s.forwarderReport) := by
  by_cases h : clear <;> simp only [h, decide_true, decide_false, if_true, if_false] <;> rfl

end Owners

section Parameters

variable {b : List Byte} {part1 : Bool} (hlen : 2 ≤ b.length) (hclear : (par b 1).toNat ≤ 1)
  (hpart : par b 2 = flagByte part1)

include hlen hclear hpart

/-- R147, R155: a command that ends after the clear option reads part 0. -/
theorem badOffset_portRead_eq_none (hport : isBelow 5 (par b 0) = true) :
    badOffset 2 [(0, isBelow 5 (par b 0)), (1, isFlag (par b 1)), (2, isFlag (par b 2))] b = none := by
  have hoption : isFlag (par b 1) = true := decide_eq_true hclear
  simp [badOffset_of_long hlen, hport, hoption, hpart]

variable (s : State)

/-- R155: PORT_READ with its parameters in range reaches the station port. -/
theorem runPortRead_of_station {p : PortId} (hport : par b 0 = BitVec.ofNat 8 p.val) :
    runPortRead b s = s.readStation p (decide (par b 1 = 1#8)) part1 := by
  have hbelow : isBelow 5 (par b 0) = true := hport ▸ isBelow_ofNat (p.castLE (by decide) : Fin 5) (by decide)
  rw [runPortRead, checked_of_none (badOffset_portRead_eq_none hlen hclear hpart hbelow), hport,
    if_neg (ofNat_port_ne_four p), portOf_ofNat, hpart, flagByte_beq_one, beq_eq_decide]

/-- R155: PORT_READ of port 4. -/
theorem runPortRead_of_trunk (hport : par b 0 = 4#8) :
    runPortRead b s = s.readTrunk (decide (par b 1 = 1#8)) part1 := by
  have hbelow : isBelow 5 (par b 0) = true := hport ▸ by decide
  rw [runPortRead, checked_of_none (badOffset_portRead_eq_none hlen hclear hpart hbelow), hport, if_pos rfl, hpart,
    flagByte_beq_one, beq_eq_decide]

end Parameters

section Answer

variable {s : State} {c : Command} {rest : List Command} {code : CommandCode} {a : Answer}
  {run : List Byte → State → State × Answer} (h : Fresh s c rest code)

include h

/-- R148, R149: an answer after an effect on the station ports alone. -/
theorem State.takeCommand_eq_setPorts {v : Vector Port 4}
    (hrun : run c.params (s.taken rest) = ((s.taken rest).setPorts v, a)) :
    s.takeCommand (some code) run =
      { s with ports := v, me := engineAfter s c rest s.sched.cycle a.status a.detail a.data } := by
  rw [State.takeCommand_eq_answer h, hrun]
  rfl

/-- R148, R149: an answer after an effect on the trunk port alone. -/
theorem State.takeCommand_eq_setTrunk {t : Trunk}
    (hrun : run c.params (s.taken rest) = ((s.taken rest).setTrunk t, a)) :
    s.takeCommand (some code) run =
      { s with trunk := t, me := engineAfter s c rest s.sched.cycle a.status a.detail a.data } := by
  rw [State.takeCommand_eq_answer h, hrun]
  rfl

/-- R148, R149: an answer after an effect on the forwarder alone. -/
theorem State.takeCommand_eq_setDf {d : Forwarder}
    (hrun : run c.params (s.taken rest) = ((s.taken rest).setDf d, a)) :
    s.takeCommand (some code) run =
      { s with df := d, me := engineAfter s c rest s.sched.cycle a.status a.detail a.data } := by
  rw [State.takeCommand_eq_answer h, hrun]
  rfl

end Answer

/-- Settles O53: the two parts of a station port, then the two parts of port 4. -/
theorem portReadReportsOnePart : Obligations.PortReadReportsOnePart := by
  refine ⟨fun s c rest p hfresh hlen hport hclear => ?_, fun s c rest hfresh hlen hport hclear => ?_⟩
  · intro pt n
    refine ⟨fun hpart => congrArg Host.Outcome.next ?_, fun hpart => congrArg Host.Outcome.next ?_⟩
    · have hrun := runPortRead_of_station (part1 := false) hlen hclear hpart (s.taken rest) hport
      exact State.takeCommand_eq_setPorts hfresh (hrun.trans ((s.taken rest).readStation_part0 p _))
    · have hrun := runPortRead_of_station (part1 := true) hlen hclear hpart (s.taken rest) hport
      exact State.takeCommand_eq_setPorts hfresh (hrun.trans ((s.taken rest).readStation_part1 p _))
  · refine ⟨fun hpart => congrArg Host.Outcome.next ?_, fun hpart => congrArg Host.Outcome.next ?_⟩
    · have hrun := runPortRead_of_trunk (part1 := false) hlen hclear hpart (s.taken rest) hport
      exact State.takeCommand_eq_setTrunk hfresh (hrun.trans ((s.taken rest).readTrunk_part0 _))
    · have hrun := runPortRead_of_trunk (part1 := true) hlen hclear hpart (s.taken rest) hport
      exact State.takeCommand_eq_setDf hfresh (hrun.trans ((s.taken rest).readTrunk_part1 _))

end PortRead

end Sys2Proof.Machine
end

section
/-! PROOFS. The trunk port's reception and signal (R126, R127), and the commands that the forwarder takes (R119, R128 to
R132). -/

namespace Sys2Proof.Machine

open Sys2Proof.Claims

/-! ### A cell on the trunk (R126) -/

section Reception

variable {s : State} {t : Trunk} {bytes : List Byte} {check : Check} {c : Cell}

/-- R126 (log entry 10). -/
theorem Trunk.takes_iff : t.takes bytes = true ↔ t.signal = true ∨ bytes.length < 64 := by
  simp [Trunk.takes]

theorem Trunk.receive_of_bad (h : t.takes bytes = true) (hjudge : judge trunkAccepts bytes = .bad check) :
    t.receive bytes = t.countBad check := by
  simp only [Trunk.receive, h, hjudge, if_true]

theorem Trunk.receive_of_good (h : t.takes bytes = true) (hjudge : judge trunkAccepts bytes = .good c) :
    t.receive bytes = t.takeGood c := by
  simp only [Trunk.receive, h, hjudge, if_true]

theorem Trunk.receive_of_not_takes (h : ¬ t.takes bytes = true) : t.receive bytes = t :=
  if_neg h

/-- R126: an IDLE cell is ignored. -/
theorem Trunk.takeGood_of_idle (h : c.kind = .idle) : t.takeGood c = t := by
  simp only [Trunk.takeGood, h]

theorem Trunk.takeGood_of_not_idle (h : c.kind ≠ .idle) :
    t.takeGood c = { t with received := satAdd t.received 1, handoff := t.handoff ++ [c] } := by
  unfold Trunk.takeGood
  split
  · next hidle => exact absurd hidle h
  all_goals rfl

theorem exec_trunkCellReceive_of_running (h : s.phase = .running) :
    exec (.trunkCellReceive bytes) s = .next (s.setTrunk (s.trunk.receive bytes)) :=
  congrArg Host.Outcome.next (if_pos (State.running_of_phase h))

/-- Settles O31: a bad cell by its check, a good cell by its kind, and the whole cell that a trunk in DOWN does not
take. -/
theorem trunkTakesCells : Obligations.TrunkTakesCells := by
  refine ⟨fun s bytes check hphase htakes hjudge => ?_, fun s bytes c hphase hup hjudge => ?_,
    fun s bytes hdown hwhole => ?_⟩
  · rw [exec_trunkCellReceive_of_running hphase, Trunk.receive_of_bad (Trunk.takes_iff.mpr htakes) hjudge]
    cases check <;> rfl
  · rw [exec_trunkCellReceive_of_running hphase, Trunk.receive_of_good (Trunk.takes_iff.mpr (.inl hup)) hjudge]
    by_cases hidle : c.kind = .idle
    · rw [if_pos hidle, Trunk.takeGood_of_idle hidle]
      rfl
    · rw [if_neg hidle, Trunk.takeGood_of_not_idle hidle]
      rfl
  · have hnot : ¬ s.trunk.takes bytes = true := by simp [Trunk.takes_iff, hdown, hwhole]
    refine congrArg Host.Outcome.next ?_
    rw [Trunk.receive_of_not_takes hnot]
    exact ite_id s

end Reception

/-! ### The trunk signal (R127) -/

/-- Settles O32: a change, a signal that stands as it was, and a reset in progress. -/
theorem trunkSignalChangesAreReported : Obligations.TrunkSignalChangesAreReported := by
  intro s up pins
  have hexec (hphase : s.phase = .running) :
      exec (.trunkSignalChange up) s = .next ((s.setTrunkLine up).changeTrunkSignal up) :=
    congrArg Host.Outcome.next (if_pos (State.running_of_phase hphase))
  refine ⟨fun hphase hchange => ?_, fun hphase hsame => ?_, fun hphase => ?_⟩
  · rw [hexec hphase, State.changeTrunkSignal, if_neg (show (s.setTrunkLine up).trunk.signal ≠ up from hchange),
      State.post_eq_setNu_posted]
    rfl
  · rw [hexec hphase, State.changeTrunkSignal, if_pos (show (s.setTrunkLine up).trunk.signal = up from hsame)]
    rfl
  · exact congrArg Host.Outcome.next (if_neg (Bool.eq_false_iff.mp (State.running_of_phase_ne hphase)))

/-! ### The commands on the trunk (R119, R128 to R132) -/

section Commands

variable {s : State} {c : Cell} {rest : List Cell}

/-- R128: the forwarder takes the oldest cell that the trunk port handed over. -/
theorem exec_downstreamForward_of_handoff (hphase : s.phase = .running) (hwait : s.trunk.handoff = c :: rest) :
    exec .downstreamForward s = .next ((s.setTrunk { s.trunk with handoff := rest }).forward c) := by
  refine congrArg Host.Outcome.next ((if_pos (State.running_of_phase hphase)).trans ?_)
  simp only [State.forwardNext, hwait]

/-- R129. -/
theorem State.addressed_iff : s.addressed c = true ↔ c.payload[0] = 0#8 ∨ c.payload[0] = s.me.nodeAddr := by
  simp [State.addressed, Cell.nodeByte]

theorem State.forward_of_addressed (hkind : c.kind = .command)
    (haddr : c.payload[0] = 0#8 ∨ c.payload[0] = s.me.nodeAddr) : s.forward c = s.queueCommand c := by
  simp only [State.forward, hkind]
  exact if_pos (State.addressed_iff.mpr haddr)

theorem State.forward_of_not_addressed (hkind : c.kind = .command)
    (haddr : ¬ (c.payload[0] = 0#8 ∨ c.payload[0] = s.me.nodeAddr)) : s.forward c = s.relayCommand c := by
  simp only [State.forward, hkind]
  exact if_neg (mt State.addressed_iff.mp haddr)

/-- R119: a port after an offer, as the statements write it. -/
theorem Port.offerEgress_eq_offered (pt : Port) (c : Cell) : pt.offerEgress c = offered pt c := by
  rcases pt.offerEgress_cases c with ⟨hstate, hroom, heq⟩ | ⟨hfull, heq⟩ <;> rw [heq, offered]
  · rw [if_pos ⟨hstate, hroom⟩]
  · rw [if_neg hfull]

theorem State.offerPorts_eq_offered (s : State) (named : PortId → Bool) (c : Cell) :
    s.offerPorts named c =
      s.setPorts (Vector.ofFn fun p : PortId => if named p = true then offered s.ports[p] c else s.ports[p]) := by
  simp only [State.offerPorts, Port.offerEgress_eq_offered]

/-- R132: some port relays commands. -/
theorem State.any_relay_iff :
    (List.finRange 4).any (fun p : PortId => s.ports[p].relay) = true ↔ ∃ p : PortId, s.ports[p].relay = true := by
  simp only [List.any_eq_true, List.mem_finRange, true_and]

theorem State.relayCommand_of_relay (h : ∃ p : PortId, s.ports[p].relay = true) :
    s.relayCommand c =
      (s.setPorts (Vector.ofFn fun p : PortId =>
        if s.ports[p].relay = true then offered s.ports[p] c else s.ports[p])).setDf
        { s.df with commandsRelayed := satAdd s.df.commandsRelayed 1 } := by
  rw [State.relayCommand, if_pos (State.any_relay_iff.mpr h), State.offerPorts_eq_offered]

theorem State.relayCommand_of_no_relay (h : ∀ p : PortId, s.ports[p].relay = false) :
    s.relayCommand c = s.setDf { s.df with commandsUnrelayable := satAdd s.df.commandsUnrelayable 1 } := by
  refine if_neg fun hany => ?_
  obtain ⟨p, hp⟩ := State.any_relay_iff.mp hany
  exact Bool.eq_false_iff.mp (h p) hp

/-- Settles O33: a command for this pacer by the room in the command queue, any other by the relay bits. -/
theorem commandsAreQueuedOrRelayed : Obligations.CommandsAreQueuedOrRelayed := by
  intro s c rest hphase hwait hkind trunk
  have hexec : exec .downstreamForward s = .next ((s.setTrunk trunk).forward c) :=
    exec_downstreamForward_of_handoff hphase hwait
  refine ⟨fun haddr => ?_, fun haddr => ?_⟩
  · rw [hexec, State.forward_of_addressed (s := s.setTrunk trunk) hkind haddr]
    exact ⟨fun hroom => congrArg Host.Outcome.next (if_pos hroom),
      fun hfull => congrArg Host.Outcome.next (if_neg (not_lt.mpr hfull))⟩
  · rw [hexec, State.forward_of_not_addressed (s := s.setTrunk trunk) hkind (not_or.mpr haddr)]
    exact ⟨fun hrelay => congrArg Host.Outcome.next (State.relayCommand_of_relay (s := s.setTrunk trunk) hrelay),
      fun hnone => congrArg Host.Outcome.next (State.relayCommand_of_no_relay (s := s.setTrunk trunk) hnone)⟩

end Commands

end Sys2Proof.Machine
end

section
/-! PROOFS. The laws of the station ports and of the trunk signal (R113, R114, R119, R121, R127): one lemma for each
operation of a port, for each row that changes a port, and for the rows that leave the links alone. -/

namespace Sys2Proof.Machine

/-! ### The operations of a port (R113 to R121) -/

/-- The fields of a port that its laws speak of. -/
def Port.lawful (pt : Port) : PortState × Bool × Byte × Bool × List Cell :=
  (pt.state, pt.signal, pt.streak, pt.enable, pt.egress)

namespace PortLaws

variable {pt new : Port} {line : Bool}

/-- What a port counts, hands on or transmits, and the settings but for enable, have no share in its laws. -/
theorem of_lawful_eq (h : PortLaws pt line) (e : new.lawful = pt.lawful) : PortLaws new line := by
  simp only [Port.lawful, Prod.mk.injEq] at e
  obtain ⟨hstate, hsignal, hstreak, henable, hegress⟩ := e
  constructor
  · rw [hstate, henable]; exact h.enable
  · rw [hstate, hegress]; exact h.fifo
  · rw [hstate, hstreak]; exact h.streak
  · rw [hegress]; exact h.places
  · rw [hstate, hsignal]; exact h.signal
  · rw [hsignal]; exact h.line

/-- R113, R114: an ACTIVE or a QUARANTINED port is enabled. -/
theorem enable_eq_true (h : PortLaws pt line) (hstate : pt.state ≠ .disabled) : pt.enable = true :=
  Bool.eq_true_of_not_eq_false (mt h.enable.mpr hstate)

/-- R114, R121: a port that enters a state is lawful when the enable setting and the signal go with the state. -/
theorem enter {st : PortState} (henable : st = .disabled ↔ pt.enable = false)
    (hactive : st = .active → pt.signal = true)
    (hwaiting : st = .waiting → pt.signal = false) (hplaces : pt.egress.length ≤ 32) (hline : pt.signal = line) :
    PortLaws (pt.enter st) line := by
  rcases pt.enter_cases st with ⟨hst, heq⟩ | ⟨hst, heq⟩ <;> rw [heq]
  · exact ⟨henable, fun _ => rfl, fun _ => rfl, Nat.zero_le _, ⟨hactive, hwaiting⟩, hline⟩
  · have hnot : ¬ (st = .disabled ∨ st = .waiting) := by rcases hst with rfl | rfl <;> decide
    exact ⟨henable, fun x => absurd x hnot, fun x => absurd x hnot, hplaces, ⟨hactive, hwaiting⟩, hline⟩

/-- R114, R121: an enabled port enters another state than DISABLED. -/
theorem enter_of_enabled {st : PortState} (henable : pt.enable = true) (hst : st ≠ .disabled)
    (hactive : st = .active → pt.signal = true) (hwaiting : st = .waiting → pt.signal = false)
    (hplaces : pt.egress.length ≤ 32) (hline : pt.signal = line) : PortLaws (pt.enter st) line :=
  enter ⟨fun hdisabled => absurd hdisabled hst, fun hclear => by simp [henable] at hclear⟩
    hactive hwaiting hplaces hline

/-- R114: the laws of an ACTIVE port leave its streak free. -/
theorem setStreak_of_active (h : PortLaws pt line) (hactive : pt.state = .active) (streak : Byte) :
    PortLaws { pt with streak := streak } line :=
  { enable := h.enable, fifo := h.fifo, places := h.places, signal := h.signal, line := h.line
    streak := fun x => absurd (hactive ▸ x : PortState.active = .disabled ∨ _) (by decide) }

/-- R114: signal gained or lost by a port whose state does not turn on it. -/
theorem setSignal (h : PortLaws pt line) {present : Bool} (hactive : pt.state = .active → present = true)
    (hwaiting : pt.state = .waiting → present = false) : PortLaws { pt with signal := present } present :=
  { enable := h.enable, fifo := h.fifo, streak := h.streak, places := h.places, signal := ⟨hactive, hwaiting⟩
    line := rfl }

/-- R119. -/
theorem offerEgress (h : PortLaws pt line) (c : Cell) : PortLaws (pt.offerEgress c) line := by
  rcases pt.offerEgress_cases c with ⟨hstate, hroom, heq⟩ | ⟨-, heq⟩ <;> rw [heq]
  · have hnot : ¬ (pt.state = .disabled ∨ pt.state = .waiting) := by rcases hstate with e | e <;> rw [e] <;> decide
    exact ⟨h.enable, fun x => absurd x hnot, h.streak, by simpa using hroom, h.signal, h.line⟩
  · exact h.of_lawful_eq rfl

/-- R120: a transmission takes the head of the FIFO, which a WAITING port does not have. -/
theorem transmit (h : PortLaws pt line) : PortLaws pt.transmit line := by
  by_cases hstate : pt.state = .disabled
  · rw [Port.transmit_of_disabled hstate]
    exact h.of_lawful_eq rfl
  · cases hq : pt.egress with
    | nil =>
      rw [Port.transmit_of_empty hstate hq]
      exact h.of_lawful_eq rfl
    | cons c rest =>
      rw [Port.transmit_of_head hstate hq]
      have hplaces : rest.length + 1 ≤ 32 := by simpa [hq] using h.places
      exact ⟨h.enable, fun x => absurd (h.fifo x) (by simp [hq]), h.streak, Nat.le_of_succ_le hplaces, h.signal, h.line⟩

end PortLaws

/-! ### A cell on a station link (R116 to R118) -/

section Reception

variable {pt : Port} {line : Bool}

/-- R116: a bad cell raises the streak, in ACTIVE. -/
theorem PortLaws.countBad (h : PortLaws pt line) (hactive : pt.state = .active) (check : Check) :
    PortLaws (pt.countBad check) line :=
  (h.setStreak_of_active hactive _).of_lawful_eq rfl

/-- R116: the streak that reaches the threshold; the port keeps its FIFO. -/
theorem PortLaws.quarantine (h : PortLaws pt line) (hactive : pt.state = .active) :
    PortLaws (pt.enter .quarantined) line :=
  PortLaws.enter_of_enabled (h.enable_eq_true (hactive ▸ nofun)) nofun nofun nofun h.places h.line

/-- R116, R117: a good cell clears the streak, or leaves it as it is. -/
theorem PortLaws.takeGood (h : PortLaws pt line) (hactive : pt.state = .active) (slot : Word32) (c : Cell) :
    PortLaws (pt.takeGood slot c) line := by
  have hcleared := h.setStreak_of_active hactive 0#8
  unfold Port.takeGood
  split
  · exact hcleared
  · exact hcleared.of_lawful_eq rfl
  · exact hcleared.of_lawful_eq rfl
  · exact hcleared.of_lawful_eq rfl
  · exact h.of_lawful_eq rfl

/-- R118: a QUARANTINED port only counts. -/
theorem PortLaws.takeQuarantined (h : PortLaws pt line) (judged : Judged) :
    PortLaws (pt.takeQuarantined judged) line := by
  unfold Port.takeQuarantined
  split
  · exact h
  · exact h.of_lawful_eq rfl

end Reception

/-! ### The links of the part -/

/-- The fields of the part that the laws of its links speak of. -/
def State.links (s : State) : Phase × Pins × Vector Port 4 × Bool :=
  (s.phase, s.pins, s.ports, s.trunk.signal)

section Links

variable {s t : State} {p : PortId}

/-- R172: the laws speak of a part that no power-on or pin reset holds. -/
theorem LinkLaws.of_not_running (h : s.phase ≠ .running) : LinkLaws s :=
  ⟨fun hphase => absurd hphase h, fun hphase => absurd hphase h⟩

theorem LinkLaws.of_links_eq (h : LinkLaws s) (e : t.links = s.links) : LinkLaws t := by
  simp only [State.links, Prod.mk.injEq] at e
  obtain ⟨hphase, hpins, hports, htrunk⟩ := e
  constructor
  · rw [hphase, hpins, hports]; exact h.ports
  · rw [hphase, hpins, htrunk]; exact h.trunk

/-- R113: the ports change, each within its laws, and nothing else of the links. -/
theorem LinkLaws.of_ports (h : LinkLaws s) {v : Vector Port 4} (e : t.links = (s.setPorts v).links)
    (hports : ∀ (q : PortId) (line : Bool), PortLaws s.ports[q] line → PortLaws v[q] line) : LinkLaws t :=
  LinkLaws.of_links_eq (s := s.setPorts v) ⟨fun hphase q => hports q _ (h.ports hphase q), h.trunk⟩ e

/-- R113: one port changes within its laws. -/
theorem LinkLaws.of_updPort (h : LinkLaws s) {f : Port → Port} (e : t.links = (s.updPort p f).links)
    (hport : ∀ line, PortLaws s.ports[p] line → PortLaws (f s.ports[p]) line) : LinkLaws t := by
  refine h.of_ports e fun q line hq => ?_
  by_cases hpq : p = q
  · subst hpq
    rw [getElem_updateAt_self]
    exact hport line hq
  · rwa [getElem_updateAt_ne s.ports hpq]

/-- R113, R114: the line of one port and the port change together. -/
theorem LinkLaws.of_line (h : LinkLaws s) {f : Port → Port} {present : Bool}
    (e : t.links = ((s.setStationLine p present).updPort p f).links)
    (hport : ∀ line, PortLaws s.ports[p] line → PortLaws (f s.ports[p]) present) : LinkLaws t := by
  refine LinkLaws.of_links_eq (s := (s.setStationLine p present).updPort p f) ⟨fun hphase q => ?_, h.trunk⟩ e
  change PortLaws (updateAt s.ports p f)[q] (updateAt s.pins.stationLine p fun _ => present)[q]
  by_cases hpq : p = q
  · subst hpq
    rw [getElem_updateAt_self, getElem_updateAt_self]
    exact hport _ (h.ports hphase p)
  · rw [getElem_updateAt_ne s.ports hpq, getElem_updateAt_ne s.pins.stationLine hpq]
    exact h.ports hphase q

/-- R115: a port is changed and then enters a state. -/
theorem State.updPort_enterPort_links (f : Port → Port) (st : PortState) (cause : PortCause) :
    ((s.updPort p f).enterPort p st cause).links = (s.updPort p fun pt => (f pt).enter st).links := by
  rw [State.updPort_enterPort]
  rfl

end Links

/-! ### The rows of a station port (R114 to R120) -/

section Rows

variable {s : State} (h : LinkLaws s) (p : PortId)

include h

theorem LinkLaws.after_takeBad (hactive : s.ports[p].state = .active) (check : Check) :
    LinkLaws (s.takeBad p check) := by
  unfold State.takeBad
  split
  · exact h.of_updPort (State.updPort_enterPort_links _ _ _) fun _ hp => (hp.countBad hactive check).quarantine hactive
  · exact h.of_updPort rfl fun _ hp => hp.countBad hactive check

theorem LinkLaws.after_receiveAt (bytes : List Byte) : LinkLaws (s.receiveAt p bytes) := by
  unfold State.receiveAt
  split
  · next hactive =>
    split
    · exact h.after_takeBad p hactive _
    · exact h.of_updPort rfl fun _ hp => hp.takeGood hactive _ _
  · exact h.of_updPort rfl fun _ hp => hp.takeQuarantined _
  · exact h
  · exact h

/-- R114, signal gained. -/
theorem LinkLaws.after_gainSignal : LinkLaws ((s.setStationLine p true).gainSignal p) := by
  by_cases hwaiting : s.ports[p].state = .waiting
  · rw [State.gainSignal_of_waiting (s := s.setStationLine p true) hwaiting]
    refine h.of_line (State.updPort_enterPort_links _ _ _) fun _ hp => ?_
    exact PortLaws.enter_of_enabled (hp.enable_eq_true (hwaiting ▸ nofun)) nofun (fun _ => rfl) nofun hp.places rfl
  · rw [State.gainSignal_of_not_waiting (s := s.setStationLine p true) hwaiting]
    exact h.of_line rfl fun _ hp => hp.setSignal (fun _ => rfl) (absurd · hwaiting)

/-- R114, signal lost. -/
theorem LinkLaws.after_loseSignal : LinkLaws ((s.setStationLine p false).loseSignal p) := by
  by_cases hactive : s.ports[p].state = .active
  · rw [State.loseSignal_of_active (s := s.setStationLine p false) hactive]
    refine h.of_line (State.updPort_enterPort_links _ _ _) fun _ hp => ?_
    exact PortLaws.enter_of_enabled (hp.enable_eq_true (hactive ▸ nofun)) nofun nofun (fun _ => rfl) hp.places rfl
  · rw [State.loseSignal_of_not_active (s := s.setStationLine p false) hactive]
    exact h.of_line rfl fun _ hp => hp.setSignal (absurd · hactive) (fun _ => rfl)

theorem LinkLaws.after_transmit : LinkLaws (s.updPort p Port.transmit) :=
  h.of_updPort rfl fun _ hp => hp.transmit

/-- R80 to R84: of the links, classification changes a port's counters and its hand-offs alone. -/
theorem LinkLaws.after_classifyNext : LinkLaws (s.classifyNext p) := by
  have hcounted (f : PortCounters → PortCounters) (g : Port → List HandOff) :
      LinkLaws ((s.countPort p f).updPort p fun pt => { pt with handoff := g pt }) :=
    LinkLaws.of_updPort (s := s.countPort p f) (h.of_updPort rfl fun _ hp => hp.of_lawful_eq rfl) rfl
      fun _ hp => hp.of_lawful_eq rfl
  unfold State.classifyNext
  split
  · exact h
  · next c t _ =>
    rcases s.classify_cases p c t with ⟨-, heq⟩ | ⟨i, -, -, -, heq⟩ | ⟨i, -, -, -, heq⟩ <;> rw [heq]
    · exact hcounted _ _
    · exact hcounted _ _
    · have hmeasured : LinkLaws (s.measureFlow i c t).1 := h.of_links_eq (by simp [State.links, State.measureFlow])
      exact hmeasured.of_updPort rfl fun _ hp => hp.of_lawful_eq rfl

/-- R63 to R65: admission takes the oldest offer of a port. -/
theorem LinkLaws.after_admitNext : LinkLaws (s.admitNext p) := by
  unfold State.admitNext
  split
  · next o rest _ =>
    have hpopped : LinkLaws (s.updPort p fun pt => { pt with handoff := rest }) :=
      h.of_updPort rfl fun _ hp => hp.of_lawful_eq rfl
    refine hpopped.of_links_eq ?_
    rcases (s.updPort p fun pt => { pt with handoff := rest }).takeOffer_cases o with ⟨-, heq⟩ | ⟨-, heq⟩ <;> rw [heq]
    · rfl
    · unfold State.countFlowDrop
      split <;> rfl
  · exact h
  · exact h

end Rows

/-! ### The rows of the trunk (R119, R126 to R136) -/

section TrunkRows

variable {s : State} (h : LinkLaws s)

include h

/-- R126: a reception on the trunk leaves its signal state. -/
theorem LinkLaws.after_trunkReceive (bytes : List Byte) : LinkLaws (s.setTrunk (s.trunk.receive bytes)) := by
  have hsignal : (s.trunk.receive bytes).signal = s.trunk.signal := by
    rcases s.trunk.receive_cases bytes with ⟨-, heq⟩ | ⟨check, -, heq⟩ | ⟨c, -, heq⟩ <;> rw [heq]
    · cases check <;> rfl
    · unfold Trunk.takeGood
      split <;> rfl
  exact h.of_links_eq (congrArg (fun b => (s.phase, s.pins, s.ports, b)) hsignal)

/-- R127: the signal state follows the line. -/
theorem LinkLaws.after_changeTrunkSignal (up : Bool) : LinkLaws ((s.setTrunkLine up).changeTrunkSignal up) := by
  have hsignal : ((s.setTrunkLine up).changeTrunkSignal up).trunk.signal = up := by
    unfold State.changeTrunkSignal
    split
    · next hsame => exact hsame
    · rw [State.post_trunk]
      rfl
  constructor
  · rw [State.changeTrunkSignal_phase, State.changeTrunkSignal_pins, State.changeTrunkSignal_ports]
    exact h.ports
  · intro _
    rw [hsignal, State.changeTrunkSignal_pins]
    rfl

/-- R119: a downstream cell offered to some of the ports. -/
theorem LinkLaws.after_offerPorts (named : PortId → Bool) (c : Cell) : LinkLaws (s.offerPorts named c) := by
  refine h.of_ports rfl fun q line hq => ?_
  simp only [Fin.getElem_fin, Vector.getElem_ofFn]
  split
  · exact hq.offerEgress c
  · exact hq

/-- R128: what becomes of a cell. -/
theorem LinkLaws.after_forward (c : Cell) : LinkLaws (s.forward c) := by
  unfold State.forward
  split
  · split
    · unfold State.queueCommand
      split <;> exact h.of_links_eq rfl
    · unfold State.relayCommand
      split
      · exact (h.after_offerPorts _ c).of_links_eq rfl
      · exact h.of_links_eq rfl
  · unfold State.forwardData
    split
    · exact h.of_links_eq rfl
    · split
      · exact h.of_links_eq rfl
      · exact (h.after_offerPorts _ c).of_links_eq rfl
  · exact h.of_links_eq rfl
  · exact h.of_links_eq rfl
  · exact h

theorem LinkLaws.after_forwardNext : LinkLaws s.forwardNext := by
  unfold State.forwardNext
  split
  · exact h
  · next c rest _ =>
    exact LinkLaws.after_forward (s := s.setTrunk { s.trunk with handoff := rest }) (h.of_links_eq rfl) c

end TrunkRows

/-! ### The port commands (R114, R122, R155) -/

section PortCommands

variable {s : State} (h : LinkLaws s)

include h

/-- R114, R122: PORT_SET leaves a port in the state that its enable value and its signal ask for. -/
theorem LinkLaws.after_setPort (p : PortId) (t : PortTerms) : LinkLaws (s.setPort p t) := by
  have henable : s.ports[p].stateAfterSet t.enable = .disabled ↔ t.enable = false :=
    Port.stateAfterSet_eq_disabled_iff
  unfold State.setPort
  split
  · next hkept =>
    refine h.of_updPort rfl fun _ hp => ?_
    exact ⟨hkept ▸ henable, hp.fifo, hp.streak, hp.places, hp.signal, hp.line⟩
  · next hmoved =>
    refine h.of_updPort (State.updPort_enterPort_links _ _ _) fun _ hp => ?_
    obtain ⟨hactive, hwaiting⟩ := Port.signal_of_moved hmoved
    exact PortLaws.enter henable hactive hwaiting hp.places hp.line

/-- R122. -/
theorem LinkLaws.after_runPortSet (b : List Byte) : LinkLaws (runPortSet b s).1 :=
  checked_keeps h (h.after_setPort _ _)

theorem LinkLaws.after_countPort (p : PortId) (f : PortCounters → PortCounters) : LinkLaws (s.countPort p f) :=
  h.of_updPort rfl fun _ hp => hp.of_lawful_eq rfl

/-- R155: PORT_READ clears counters alone. -/
theorem LinkLaws.after_runPortRead (b : List Byte) : LinkLaws (runPortRead b s).1 := by
  refine checked_keeps h ?_
  split
  · unfold State.readTrunk
    split <;> split
    · exact h.of_links_eq rfl
    · exact h
    · exact h.of_links_eq rfl
    · exact h
  · unfold State.readStation
    split <;> split
    · exact h.after_countPort _ _
    · exact h
    · exact h.after_countPort _ _
    · exact h

end PortCommands

/-! ### The commands that leave the links alone -/

/-- R148: a command whose owner keeps the laws keeps them. -/
theorem LinkLaws.after_takeCommand {row : Option CommandCode} {run : List Byte → State → State × Answer}
    (hrun : ∀ p u, LinkLaws u → LinkLaws (run p u).1) {s : State} (h : LinkLaws s) :
    LinkLaws (s.takeCommand row run) :=
  State.takeCommand_keeps (P := LinkLaws) (fun _ _ hu => hu.of_links_eq rfl) hrun h

/-- R148: a command whose owner leaves the links alone keeps the laws. -/
theorem LinkLaws.after_takeCommand_of_links {row : Option CommandCode} {run : List Byte → State → State × Answer}
    (hrun : ∀ p u, (run p u).1.links = u.links) {s : State} (h : LinkLaws s) : LinkLaws (s.takeCommand row run) :=
  h.after_takeCommand fun p u hu => hu.of_links_eq (hrun p u)

section OtherCommands

variable (p : List Byte) (s : State)

/-- R147: parameters that fail leave the part alone, so the links are as the owner leaves them. -/
theorem checked_links {need : Nat} {checks : List (Nat × Bool)} {p : List Byte} {s : State} {owner : State × Answer}
    (h : owner.1.links = s.links) : (checked need checks p s owner).1.links = s.links :=
  checked_keeps (P := fun u => u.links = s.links) rfl h

theorem runEcho_links : (runEcho p s).1.links = s.links := by
  unfold runEcho; split <;> rfl

theorem runStatus_links : (runStatus p s).1.links = s.links :=
  checked_links (by unfold State.clearDrops; split <;> rfl)

theorem runPlanWrite_links : (runPlanWrite p s).1.links = s.links := by
  unfold runPlanWrite
  split
  · rfl
  · unfold State.planWrite; split <;> rfl

theorem runPlanLength_links : (runPlanLength p s).1.links = s.links :=
  checked_links (by unfold State.planLength; split <;> rfl)

theorem runPlanRead_links : (runPlanRead p s).1.links = s.links :=
  checked_links rfl

theorem runPlanCommit_links : (runPlanCommit p s).1.links = s.links := by
  refine checked_links ?_
  unfold State.planCommit
  split_ifs
  · rfl
  · rfl
  · split <;> rfl

theorem runPlanWithdraw_links : (runPlanWithdraw p s).1.links = s.links :=
  checked_links (by unfold State.planWithdraw; split <;> rfl)

theorem runSchedStart_links : (runSchedStart p s).1.links = s.links := by
  refine checked_links ?_
  unfold State.schedStart
  split
  · rfl
  · split <;> rfl

theorem runSchedStop_links : (runSchedStop p s).1.links = s.links := by
  unfold runSchedStop; split <;> rfl

theorem runExcursionEnd_links : (runExcursionEnd p s).1.links = s.links := by
  unfold runExcursionEnd; split <;> rfl

theorem runFlowWrite_links : (runFlowWrite p s).1.links = s.links := by
  refine checked_links ?_
  unfold State.flowWrite
  split
  · rfl
  · split <;> rfl

theorem runFlowRead_links : (runFlowRead p s).1.links = s.links :=
  checked_links (by unfold State.flowRead; split <;> rfl)

theorem runFlowClear_links : (runFlowClear p s).1.links = s.links :=
  checked_links rfl

theorem runFlowRearm_links : (runFlowRearm p s).1.links = s.links :=
  checked_links (by unfold State.flowRearm; split <;> rfl)

theorem runClassSet_links : (runClassSet p s).1.links = s.links :=
  checked_links (by unfold State.classSet; split <;> rfl)

theorem runClassRead_links : (runClassRead p s).1.links = s.links :=
  checked_links (by unfold State.classRead; split <;> rfl)

theorem runClassFlush_links : (runClassFlush p s).1.links = s.links :=
  checked_links rfl

theorem runRelaySet_links : (runRelaySet p s).1.links = s.links :=
  checked_links rfl

theorem runNoticeSet_links : (runNoticeSet p s).1.links = s.links :=
  checked_links rfl

end OtherCommands

/-! ### The resets (R113, R127, R156, R171) -/

section Resets

variable {s t : State}

/-- R113, R127: at the end of a reset every signal state is that of its line. -/
theorem LinkLaws.endReset (s : State) (node : Byte) (straps : BitVec 6) (rate : Bool) (cause : ResetCause)
    (trunkTx : LinkOut) (portTx : PortId → LinkOut) :
    LinkLaws (s.endReset node straps rate cause trunkTx portTx) := by
  refine ⟨fun _ p => ?_, fun _ => rfl⟩
  have hport : (s.endReset node straps rate cause trunkTx portTx).ports[p] =
      { Port.reset s.pins.stationLine[p] with tx := portTx p } := Vector.getElem_ofFn p.isLt
  rw [hport]
  exact (PortLaws.reset _).of_lawful_eq rfl

theorem LinkLaws.after_settleReset (h : LinkLaws s) : LinkLaws s.settleReset := by
  unfold State.settleReset
  split
  · exact LinkLaws.endReset ..
  · exact h

variable {straps : BitVec 6} {rate : Bool}

/-- R171: the end of the 2 ms of a power-on reset. -/
theorem LinkLaws.after_powerOnResetEnd (h : LinkLaws s) (hx : exec (.powerOnResetEnd straps rate) s = .next t) :
    LinkLaws t := by
  obtain rfl := Host.Outcome.next.inj hx
  split
  · unfold State.powerUpOver
    split
    · exact LinkLaws.endReset ..
    · exact LinkLaws.of_not_running nofun
  · exact h
  · exact h
  · exact h

/-- R171: a low pulse on RESET_N. -/
theorem LinkLaws.after_pinReset {ns : Nat} (h : LinkLaws s) (hx : exec (.pinReset ns) s = .next t) : LinkLaws t := by
  obtain rfl := Host.Outcome.next.inj hx
  split
  · exact h
  · unfold State.assertResetPin
    split
    · exact LinkLaws.of_not_running nofun
    · next hphase => exact LinkLaws.of_not_running hphase

/-- R171: the release of RESET_N. -/
theorem LinkLaws.after_pinResetEnd (h : LinkLaws s) (hx : exec (.pinResetEnd straps rate) s = .next t) :
    LinkLaws t := by
  obtain rfl := Host.Outcome.next.inj hx
  split
  · exact LinkLaws.endReset ..
  · next hphase => exact LinkLaws.of_not_running (hphase ▸ nofun)
  · exact LinkLaws.endReset ..
  · exact h

end Resets

/-! ### Every row -/

section EveryRow

variable {s t u : State}

/-- R172: what a running part keeps of the laws, the row keeps. -/
theorem LinkLaws.of_running (hs : LinkLaws s) (hu : LinkLaws u) : LinkLaws (if s.running then u else s) := by
  split
  · exact hu
  · exact hs

/-- R172 (log entry 18): during a reset a change of a line signal is under no law. -/
theorem LinkLaws.of_line_change (hphase : u.phase = s.phase) (ht : LinkLaws t) :
    LinkLaws (if s.running then t else u) := by
  split
  · exact ht
  · next hnot =>
    exact LinkLaws.of_not_running fun hrunning => hnot (State.running_of_phase (hphase.symm.trans hrunning))

/-- R125: a transmitted cell leaves the trunk's signal state. -/
theorem State.transmit_links (c : Cell) : (s.transmit c).links = s.links := by
  unfold State.transmit
  split <;> rfl

theorem State.send_links (src : Source) : (s.send src).links = s.links := by
  rcases s.send_cases src with ⟨k, d, ds, -, -, heq⟩ | ⟨r, rest, -, -, heq⟩ | ⟨n, rest, -, -, heq⟩ | heq <;>
    rw [heq, State.transmit_links]
  · rfl
  · rfl
  · rfl

/-- R41: the service of a slot leaves the station ports and the signal states. -/
theorem State.serve_links (kind : SlotKind) : (s.serve kind).links = s.links := by
  rcases s.serve_cases kind with ⟨src, -, heq⟩ | ⟨-, heq⟩ <;> rw [heq]
  · exact State.send_links src
  · exact State.send_links (s := s.setQm _) _

theorem State.takeHanded_links : s.takeHanded.links = s.links := by
  simp [State.links]

/-- R41: of a slot start, only a management reset that has fallen due changes the links. -/
theorem LinkLaws.after_slotStart (h : LinkLaws s) (hx : exec .slotStart s = .next t) : LinkLaws t := by
  obtain rfl := Host.Outcome.next.inj hx
  have hbegun : LinkLaws s.takeHanded.settleReset := (h.of_links_eq State.takeHanded_links).after_settleReset
  refine h.of_running (hbegun.of_links_eq ?_)
  rw [State.startSlotApart, State.serve_links]
  simp [State.links]

theorem LinkLaws.after_cycleBoundary (h : LinkLaws s) (hx : exec .cycleBoundary s = .next t) : LinkLaws t := by
  obtain rfl := Host.Outcome.next.inj hx
  split_ifs
  · exact h.of_links_eq State.takeHanded_links
  · refine h.of_links_eq ?_
    rw [State.startSlot, State.serve_links]
    simp [State.links]
  · exact h
  · exact h

end EveryRow

/-- R113, R114, R119, R121, R127: every row keeps the laws of the links. A reset makes them anew or puts them aside; the
rows of the ports and of the trunk and the port commands keep them, and every other row leaves the links alone. -/
theorem LinkLaws.after_exec (i : Instr) (s t : State) (h : LinkLaws s) (hx : exec i s = .next t) : LinkLaws t := by
  cases i <;> obtain rfl := Host.Outcome.next.inj hx
  case powerOnReset => exact LinkLaws.of_not_running nofun
  case powerOnResetEnd => exact h.after_powerOnResetEnd hx
  case pinReset => exact h.after_pinReset hx
  case pinResetEnd => exact h.after_pinResetEnd hx
  case managementReset => exact h.after_settleReset
  case slotStart => exact h.after_slotStart hx
  case cycleBoundary => exact h.after_cycleBoundary hx
  case stationCellReceive p bytes => exact h.of_running (h.after_receiveAt p bytes)
  case stationSignalGained p => exact LinkLaws.of_line_change rfl (h.after_gainSignal p)
  case stationSignalLost p => exact LinkLaws.of_line_change rfl (h.after_loseSignal p)
  case stationTransmit p => exact h.of_running (h.after_transmit p)
  case upstreamClassification p => exact h.of_running (h.after_classifyNext p)
  case cellAdmission p => exact h.of_running (h.after_admitNext p)
  case trunkCellReceive bytes => exact h.of_running (h.after_trunkReceive bytes)
  case trunkSignalChange up => exact LinkLaws.of_line_change rfl (h.after_changeTrunkSignal up)
  case downstreamForward => exact h.of_running h.after_forwardNext
  case badCommand => exact h.after_takeCommand_of_links fun _ _ => rfl
  case echo => exact h.after_takeCommand_of_links runEcho_links
  case identify => exact h.after_takeCommand_of_links fun _ _ => rfl
  case status => exact h.after_takeCommand_of_links runStatus_links
  case planWrite => exact h.after_takeCommand_of_links runPlanWrite_links
  case planLength => exact h.after_takeCommand_of_links runPlanLength_links
  case planRead => exact h.after_takeCommand_of_links runPlanRead_links
  case planCommit => exact h.after_takeCommand_of_links runPlanCommit_links
  case planWithdraw => exact h.after_takeCommand_of_links runPlanWithdraw_links
  case schedStart => exact h.after_takeCommand_of_links runSchedStart_links
  case schedStop => exact h.after_takeCommand_of_links runSchedStop_links
  case excursionEnd => exact h.after_takeCommand_of_links runExcursionEnd_links
  case flowWrite => exact h.after_takeCommand_of_links runFlowWrite_links
  case flowRead => exact h.after_takeCommand_of_links runFlowRead_links
  case flowClear => exact h.after_takeCommand_of_links runFlowClear_links
  case flowRearm => exact h.after_takeCommand_of_links runFlowRearm_links
  case classSet => exact h.after_takeCommand_of_links runClassSet_links
  case classRead => exact h.after_takeCommand_of_links runClassRead_links
  case classFlush => exact h.after_takeCommand_of_links runClassFlush_links
  case relaySet => exact h.after_takeCommand_of_links runRelaySet_links
  case portSet => exact h.after_takeCommand fun b _ hu => hu.after_runPortSet b
  case portRead => exact h.after_takeCommand fun b _ hu => hu.after_runPortRead b
  case noticeSet => exact h.after_takeCommand_of_links runNoticeSet_links
  case partReset => exact h.after_takeCommand_of_links fun _ _ => rfl

/-- Settles O59, row by row. -/
theorem everyStepKeepsTheLinkLaws : Obligations.EveryStepKeepsTheLinkLaws :=
  fun _ _ hs h => step_keeps (P := LinkLaws) (fun _ _ hu => hu.of_links_eq rfl) LinkLaws.after_exec hs h

end Sys2Proof.Machine
end

section
/-! PROOFS. The two checks as divisions over GF(2) (R158, log entry 20): the register form leaves the remainder of the
message. -/

namespace Sys2Proof.Machine

open Sys2Proof.Claims

/-! ### The number that bytes hold (R158: most significant first) -/

/-- The number of a list of bytes, read from its first byte on. -/
theorem number_eq_foldl (bytes : List Byte) :
    number bytes 0 bytes.length = bytes.foldl (fun n byte => 256 * n + byte.toNat) 0 := by
  induction bytes using List.reverseRecOn with
  | nil => rfl
  | append_singleton bytes byte ih =>
    have hprefix : (List.range bytes.length).foldl (fun n i => 256 * n + ((bytes ++ [byte]).getD (0 + i) 0#8).toNat) 0 =
        number bytes 0 bytes.length := by
      refine List.foldl_ext _ _ _ fun n i hi => ?_
      rw [List.getD_append _ _ _ _ (by simpa using hi)]
    rw [List.foldl_append, ← ih, ← hprefix, number, List.length_append, List.length_singleton, List.range_succ,
      List.foldl_append]
    simp

theorem number_append_singleton (bytes : List Byte) (byte : Byte) :
    number (bytes ++ [byte]) 0 (bytes ++ [byte]).length = 256 * number bytes 0 bytes.length + byte.toNat := by
  rw [number_eq_foldl, number_eq_foldl, List.foldl_append]
  rfl

/-! ### One bit and one byte of a division -/

section Division

variable {w : Nat}

theorem binaryProduct_append_singleton (q : List Bool) (bit : Bool) (poly : Nat) :
    binaryProduct (q ++ [bit]) poly = (2 * binaryProduct q poly) ^^^ (if bit then poly else 0) := by
  rw [binaryProduct, List.foldl_append]
  rfl

/-- Numbers without a common bit: their sum is their sum over GF(2). -/
theorem two_pow_mul_add_eq_xor {k a : Nat} (h : a < 2 ^ k) (n : Nat) : 2 ^ k * n + a = 2 ^ k * n ^^^ a := by
  refine Nat.eq_of_testBit_eq fun i => ?_
  rw [Nat.testBit_two_pow_mul_add n h, Nat.testBit_xor, Nat.testBit_two_pow_mul]
  by_cases hi : i < k
  · simp [hi, not_le.mpr hi]
  · have hhigh : a.testBit i = false :=
      Nat.testBit_lt_two_pow (h.trans_le (Nat.pow_le_pow_right two_pos (not_lt.mp hi)))
    simp [hi, hhigh, not_lt.mp hi]

theorem two_pow_add_eq_xor {k a : Nat} (h : a < 2 ^ k) : 2 ^ k + a = 2 ^ k ^^^ a := by
  simpa using two_pow_mul_add_eq_xor h 1

theorem two_mul_xor (a b : Nat) : 2 * a ^^^ 2 * b = 2 * (a ^^^ b) := by
  simpa [Nat.shiftLeft_eq, Nat.mul_comm] using (Nat.shiftLeft_xor_distrib (a := a) (b := b) (i := 1)).symm

/-- A register that is shifted by one bit loses its top bit. -/
theorem msb_xor_shiftLeft_one (reg : BitVec w) :
    (if reg.msb then 2 ^ w else 0) ^^^ (reg <<< 1).toNat = 2 * reg.toNat := by
  have hlt := reg.isLt
  rw [BitVec.toNat_shiftLeft, Nat.shiftLeft_eq, pow_one, BitVec.msb_eq_decide]
  cases w with
  | zero => simp [Nat.lt_one_iff.mp hlt]
  | succ n =>
    rw [Nat.add_sub_cancel]
    rw [pow_succ] at hlt
    by_cases htop : 2 ^ n ≤ reg.toNat
    · have hmod : reg.toNat * 2 % 2 ^ (n + 1) = reg.toNat * 2 - 2 ^ (n + 1) := by
        rw [Nat.mod_eq_sub_mod (by omega), Nat.mod_eq_of_lt (by omega)]
      rw [hmod, if_pos (decide_eq_true htop), ← two_pow_add_eq_xor (by omega)]
      omega
    · rw [Nat.mod_eq_of_lt (by omega), if_neg (by simpa using htop), Nat.zero_xor, Nat.mul_comm]

/-- One bit of the division: the polynomial, with its highest term, is added exactly when the top bit is set. -/
theorem ite_msb_xor_crcShift (poly reg : BitVec w) :
    (if reg.msb then 2 ^ w + poly.toNat else 0) ^^^ (crcShift poly reg).toNat = 2 * reg.toNat := by
  rw [← msb_xor_shiftLeft_one, crcShift]
  cases reg.msb with
  | false => rfl
  | true =>
    simp only [if_true]
    rw [two_pow_add_eq_xor poly.isLt, BitVec.toNat_xor, Nat.xor_comm (reg <<< 1).toNat, Nat.xor_assoc,
      ← Nat.xor_assoc poly.toNat, Nat.xor_self, Nat.zero_xor]

/-- `k` bits of the division. -/
theorem exists_binaryProduct_iterate (poly reg : BitVec w) (q : List Bool) (k : Nat) :
    ∃ q', binaryProduct q' (2 ^ w + poly.toNat) ^^^ ((crcShift poly)^[k] reg).toNat =
      (binaryProduct q (2 ^ w + poly.toNat) ^^^ reg.toNat) <<< k := by
  induction k with
  | zero => exact ⟨q, rfl⟩
  | succ k ih =>
    obtain ⟨q', hq⟩ := ih
    refine ⟨q' ++ [((crcShift poly)^[k] reg).msb], ?_⟩
    rw [binaryProduct_append_singleton, Function.iterate_succ_apply', Nat.xor_assoc,
      ite_msb_xor_crcShift, two_mul_xor, hq,
      Nat.shiftLeft_succ]

/-- A byte enters at the top of the register. -/
theorem toNat_xor_byte (hw : 8 ≤ w) (reg : BitVec w) (byte : Byte) :
    (reg ^^^ (byte.setWidth w <<< (w - 8))).toNat = reg.toNat ^^^ (byte.toNat <<< (w - 8)) := by
  have hbyte : byte.toNat < 2 ^ w := byte.isLt.trans_le (Nat.pow_le_pow_right two_pos hw)
  have htop : byte.toNat <<< (w - 8) < 2 ^ w := by
    calc byte.toNat <<< (w - 8) = byte.toNat * 2 ^ (w - 8) := Nat.shiftLeft_eq _ _
      _ < 2 ^ 8 * 2 ^ (w - 8) := Nat.mul_lt_mul_of_pos_right byte.isLt (Nat.two_pow_pos _)
      _ = 2 ^ w := by rw [← pow_add, Nat.add_sub_cancel' hw]
  rw [BitVec.toNat_xor, BitVec.toNat_shiftLeft, BitVec.toNat_setWidth, Nat.mod_eq_of_lt hbyte, Nat.mod_eq_of_lt htop]

/-- R158: the register holds the remainder of the bytes that entered it. -/
theorem isRemainder_foldl_crcByte (hw : 8 ≤ w) (poly start : BitVec w) (bytes : List Byte) :
    isRemainder w (2 ^ w + poly.toNat) start.toNat bytes (bytes.foldl (crcByte poly) start) := by
  induction bytes using List.reverseRecOn with
  | nil => exact ⟨[], by simp [binaryProduct, number]⟩
  | append_singleton bytes byte ih =>
    obtain ⟨q, hq⟩ := ih
    obtain ⟨q', hq'⟩ := exists_binaryProduct_iterate poly
      (bytes.foldl (crcByte poly) start ^^^ (byte.setWidth w <<< (w - 8))) q 8
    refine ⟨q', ?_⟩
    rw [List.foldl_append]
    change binaryProduct q' _ ^^^ ((crcShift poly)^[8] _).toNat = _
    rw [hq', toNat_xor_byte hw, ← Nat.xor_assoc, hq]
    calc ((number bytes 0 bytes.length <<< w ^^^ start.toNat <<< (8 * bytes.length)) ^^^ byte.toNat <<< (w - 8)) <<< 8
        = (number bytes 0 bytes.length <<< 8 ^^^ byte.toNat) <<< w ^^^ start.toNat <<< (8 * bytes.length + 8) := by
          simp only [Nat.shiftLeft_xor_distrib, ← Nat.shiftLeft_add, Nat.sub_add_cancel hw, Nat.add_comm w 8]
          rw [Nat.xor_assoc, Nat.xor_assoc, Nat.xor_comm (start.toNat <<< _)]
      _ = number (bytes ++ [byte]) 0 (bytes ++ [byte]).length <<< w ^^^
            start.toNat <<< (8 * (bytes ++ [byte]).length) := by
          rw [number_append_singleton, Nat.shiftLeft_eq _ 8, Nat.mul_comm _ (2 ^ 8), ← two_pow_mul_add_eq_xor byte.isLt,
            List.length_append, List.length_singleton, Nat.mul_add]
          rfl

/-- R158: the header check. -/
theorem isRemainder_headerCheck (bytes : List Byte) : isRemainder 8 0x107 0 bytes (headerCheck bytes) :=
  isRemainder_foldl_crcByte (by decide) 0x07#8 0x00#8 bytes

/-- R158: the cell check, which is inverted. -/
theorem isRemainder_cellCheck (bytes : List Byte) :
    isRemainder 32 0x104C11DB7 0xFFFFFFFF bytes (~~~ cellCheck bytes) := by
  rw [cellCheck, BitVec.not_not]
  exact isRemainder_foldl_crcByte (by decide) 0x04C11DB7#32 0xFFFFFFFF#32 bytes

end Division

end Sys2Proof.Machine
end

section
/-! PROOFS. Cells on the wire (R110 to R112, R158, R159): how received bytes are judged, and that a cell's 64 bytes are
read back. -/

namespace Sys2Proof.Machine

open Sys2Proof.Claims

/-! ### Codes and lengths (R110, R158) -/

@[simp] theorem Kind.ofCode_code (k : Kind) : Kind.ofCode k.code = some k := by
  cases k <;> rfl

theorem Kind.ofCode_eq_some {byte : Byte} {k : Kind} : Kind.ofCode byte = some k ↔ k.code = byte := by
  refine ⟨fun h => ?_, fun h => h ▸ Kind.ofCode_code k⟩
  simpa using List.find?_some h

theorem Kind.code_injective {j k : Kind} (h : j.code = k.code) : j = k := by
  simpa using congrArg Kind.ofCode h

theorem Kind.code_toNat_lt (k : Kind) : k.code.toNat < 5 := by
  cases k <;> decide

theorem Kind.code_eq_zero_iff {k : Kind} : k.code = 0#8 ↔ k = .idle := by
  cases k <;> decide

/-- R110. -/
theorem lengthAllowed_iff {k : Kind} {len : Byte} :
    lengthAllowed k len = true ↔
      (k = .idle → len = 0#8) ∧ (k ≠ .idle → 1 ≤ len.toNat ∧ len.toNat ≤ 52) := by
  cases k <;> simp [lengthAllowed]

/-! ### The payload (R158) -/

theorem Payload.toList_ofBytes (bytes : List Byte) :
    (Payload.ofBytes bytes).toList = (bytes ++ List.replicate 52 0#8).take 52 :=
  rfl

/-- R158: in a cell that the part forms, the bytes beyond the payload length are 0. -/
theorem Payload.toList_ofBytes_of_le {bytes : List Byte} (h : bytes.length ≤ 52) :
    (Payload.ofBytes bytes).toList = bytes ++ List.replicate (52 - bytes.length) 0#8 := by
  rw [Payload.toList_ofBytes, List.take_append, List.take_of_length_le h, List.take_replicate, min_eq_left (by omega)]

theorem Payload.toList_ofBytes_of_ge {bytes : List Byte} (h : 52 ≤ bytes.length) :
    (Payload.ofBytes bytes).toList = bytes.take 52 := by
  rw [Payload.toList_ofBytes, List.take_append_of_le_length h]

/-! ### The three checks in order (R111, R126) -/

section Judging

variable {accepts : Kind → Bool} {bytes : List Byte} {k : Kind}

theorem judge_of_bad_header (h : bytes.length < 8 ∨ headerCheck (bytes.take 7) ≠ bytes.getD 7 0#8) :
    judge accepts bytes = .bad .header :=
  if_pos h

section GoodHeader

variable (hlen : 8 ≤ bytes.length) (hheader : headerCheck (bytes.take 7) = bytes.getD 7 0#8)

include hlen hheader

theorem judge_of_bad_cell (h : bytes.length < 64 ∨ cellCheck (bytes.take 60) ≠ read32 bytes 60) :
    judge accepts bytes = .bad .cell :=
  (if_neg (by simp [hlen, hheader])).trans (if_pos h)

variable (hwhole : 64 ≤ bytes.length) (hcell : cellCheck (bytes.take 60) = read32 bytes 60)

include hwhole hcell

/-- R111: the kind check alone remains. -/
theorem judge_of_checks :
    judge accepts bytes =
      match Kind.ofCode (bytes.getD 0 0#8) with
      | none => .bad .kind
      | some k =>
        if lengthAllowed k (bytes.getD 3 0#8) && accepts k then .good (cellOfBytes k bytes) else .bad .kind := by
  refine (if_neg (by simp [hlen, hheader])).trans ((if_neg (by simp [hwhole, hcell])).trans ?_)
  rfl

theorem judge_of_good (hk : k.code = bytes.getD 0 0#8) (hlength : lengthAllowed k (bytes.getD 3 0#8) = true)
    (haccepts : accepts k = true) : judge accepts bytes = .good (cellOfBytes k bytes) := by
  rw [judge_of_checks hlen hheader hwhole hcell, ← hk, Kind.ofCode_code]
  exact if_pos (Bool.and_eq_true_iff.mpr ⟨hlength, haccepts⟩)

theorem judge_of_bad_kind
    (h : ∀ k : Kind, k.code = bytes.getD 0 0#8 → ¬ (lengthAllowed k (bytes.getD 3 0#8) = true ∧ accepts k = true)) :
    judge accepts bytes = .bad .kind := by
  rw [judge_of_checks hlen hheader hwhole hcell]
  split
  · rfl
  · next k hk => exact if_neg (mt Bool.and_eq_true_iff.mp (h k (Kind.ofCode_eq_some.mp hk)))

end GoodHeader

/-- R158: the flow ID of a received cell. -/
theorem cellOfBytes_flowId_toNat :
    (cellOfBytes k bytes).flowId.toNat =
      256 * ((bytes.getD 1 0#8).toNat % 16) + (bytes.getD 2 0#8).toNat := by
  rw [cellOfBytes, toNat_append_eq, BitVec.extractLsb'_toNat, Nat.shiftRight_zero, Nat.mul_comm]
  rfl

end Judging

/-- Settles O22: the two checks as remainders, then cells cut short, then whole cells check by check. -/
theorem cellsAreJudgedByThreeChecksInOrder : Obligations.CellsAreJudgedByThreeChecksInOrder := by
  refine ⟨isRemainder_headerCheck, isRemainder_cellCheck, fun accepts bytes hshort => ⟨judge_of_bad_header, ?_⟩,
    fun accepts bytes hlen => ⟨fun hheader => judge_of_bad_header (.inr hheader), fun hheader => ?_⟩⟩
  · exact fun hlen hheader => judge_of_bad_cell hlen hheader (.inl hshort)
  have hlen8 : 8 ≤ bytes.length := by omega
  refine ⟨fun hcell => judge_of_bad_cell hlen8 hheader (.inr hcell), fun hcell => ⟨fun hbad => ?_, ?_⟩⟩
  · refine judge_of_bad_kind hlen8 hheader hlen.ge hcell fun k hk ⟨hlength, haccepts⟩ => ?_
    obtain ⟨hidle, hother⟩ := lengthAllowed_iff.mp hlength
    rcases hbad with hcode | ⟨hzero, hne⟩ | ⟨hne, hrange⟩ | ⟨j, hj, hrefused⟩
    · exact absurd (hk ▸ k.code_toNat_lt) hcode.not_gt
    · exact hne (hidle (Kind.code_eq_zero_iff.mp (hk.trans hzero)))
    · have hin := hother fun hk0 => hne (hk.symm.trans (Kind.code_eq_zero_iff.mpr hk0))
      omega
    · rw [Kind.code_injective (hj.trans hk.symm), haccepts] at hrefused
      exact absurd hrefused (by decide)
  · intro k hk haccepts hidle hother
    refine ⟨_, judge_of_good hlen8 hheader hlen.ge hcell hk (lengthAllowed_iff.mpr ⟨hidle, hother⟩) haccepts, rfl, rfl,
      cellOfBytes_flowId_toNat, rfl, ?_⟩
    exact Payload.toList_ofBytes_of_ge (by rw [List.length_drop]; omega)

/-! ### The bytes of a cell (R158) -/

section Wire

variable (c : Cell)

/-- R158: byte 1, bits 6 to 4 being 0. -/
theorem flagBits_append_high_eq (demoted : Bool) (id : BitVec 12) :
    BitVec.ofBool demoted ++ 0#3 ++ id.extractLsb' 8 4 =
      BitVec.ofNat 8 ((if demoted then 128 else 0) + id.toNat / 256) := by
  have hflag : (BitVec.ofBool demoted).toNat * 128 = if demoted then 128 else 0 := by cases demoted <;> rfl
  rw [← hflag]
  refine BitVec.eq_of_toNat_eq ?_
  simp only [toNat_append_eq, BitVec.extractLsb'_toNat, Nat.shiftRight_eq_div_pow, BitVec.toNat_ofNat]
  omega

/-- R158: byte 2. -/
theorem extractLsb'_low_eq (id : BitVec 12) : id.extractLsb' 0 8 = BitVec.ofNat 8 (id.toNat % 256) :=
  BitVec.eq_of_toNat_eq (by simp)

/-- R158: bytes 0 to 6, with every bit that is not read sent as 0. -/
theorem Cell.headerBytes_eq_headerOf : c.headerBytes = headerOf c := by
  have hcode : c.kind.code = (headerOf c).getD 0 0#8 := by
    unfold headerOf
    cases c.kind <;> rfl
  rw [Cell.headerBytes, hcode, flagBits_append_high_eq, extractLsb'_low_eq]
  rfl

theorem Cell.length_checkedBytes : c.checkedBytes.length = 60 := by
  simp [Cell.checkedBytes, Cell.headerBytes]

theorem Cell.length_wire : c.wire.length = 64 := by
  simp [Cell.wire, Cell.length_checkedBytes, be32]

/-- The four bytes of a number, read back. -/
theorem read32_of_bytes {p : List Byte} {i : Nat} {x : Word32} (h0 : p.getD i 0#8 = x.extractLsb' 24 8)
    (h1 : p.getD (i + 1) 0#8 = x.extractLsb' 16 8) (h2 : p.getD (i + 2) 0#8 = x.extractLsb' 8 8)
    (h3 : p.getD (i + 3) 0#8 = x.extractLsb' 0 8) : read32 p i = x := by
  rw [read32, h0, h1, h2, h3]
  refine BitVec.eq_of_toNat_eq ?_
  simp only [toNat_append_eq, BitVec.extractLsb'_toNat, Nat.shiftRight_eq_div_pow]
  omega

theorem Cell.read32_wire : read32 c.wire 60 = cellCheck c.checkedBytes := by
  have hbyte (j : Nat) : c.wire.getD (60 + j) 0#8 = (be32 (cellCheck c.checkedBytes)).getD j 0#8 := by
    rw [Cell.wire, List.getD_append_right _ _ _ _ (by rw [c.length_checkedBytes]; omega), c.length_checkedBytes,
      Nat.add_sub_cancel_left]
  exact read32_of_bytes (hbyte 0) (hbyte 1) (hbyte 2) (hbyte 3)

theorem Cell.take_wire : c.wire.take 60 = c.checkedBytes := by
  rw [Cell.wire, ← c.length_checkedBytes, List.take_left]

/-- R158: the parts of the 64 bytes. -/
theorem Cell.wire_eq_append :
    c.wire = c.headerBytes ++ headerCheck c.headerBytes :: (c.payload.toList ++ be32 (cellCheck c.checkedBytes)) := by
  simp [Cell.wire, Cell.checkedBytes]

/-- R112: byte 7 is the header check of bytes 0 to 6. -/
theorem Cell.headerCheck_wire : headerCheck (c.wire.take 7) = c.wire.getD 7 0#8 := by
  have hlen : c.headerBytes.length = 7 := rfl
  rw [c.wire_eq_append, List.take_left' hlen, List.getD_append_right _ _ _ _ hlen.le, hlen, Nat.sub_self,
    List.getD_cons_zero]

/-- R158: the payload stands behind the eight bytes of the header and its check. -/
theorem Cell.payload_of_wire : Payload.ofBytes (c.wire.drop 8) = c.payload := by
  have hdrop : c.wire.drop 8 = c.payload.toList ++ be32 (cellCheck c.checkedBytes) := by rw [c.wire_eq_append]; rfl
  refine Vector.toList_inj.mp ?_
  rw [Payload.toList_ofBytes_of_ge (by simp [hdrop]), hdrop, List.take_left' (by simp)]

/-- R158: the demoted flag is bit 7 of its byte. -/
theorem getLsbD_flagBits (demoted : Bool) (high : BitVec 4) :
    (BitVec.ofBool demoted ++ 0#3 ++ high).getLsbD 7 = demoted := by
  revert demoted high
  decide

/-- R158: the fields of a cell are read back from its bytes. -/
theorem cellOfBytes_wire : cellOfBytes c.kind c.wire = c := by
  have hflags : c.wire.getD 1 0#8 = BitVec.ofBool c.demoted ++ 0#3 ++ c.flowId.extractLsb' 8 4 := rfl
  have hlow : c.wire.getD 2 0#8 = c.flowId.extractLsb' 0 8 := rfl
  have hlen : c.wire.getD 3 0#8 = c.len := rfl
  rw [cellOfBytes, c.payload_of_wire, hflags, hlow, hlen, getLsbD_flagBits, BitVec.extractLsb'_append_eq_right,
    BitVec.extractLsb'_append_extractLsb'_eq_extractLsb' (Nat.zero_add 8).symm, BitVec.extractLsb'_eq_self]

/-- R111: a cell whose payload length goes with its kind is judged good where its kind is accepted. -/
theorem judge_wire {accepts : Kind → Bool} (haccepts : accepts c.kind = true)
    (hlength : lengthAllowed c.kind c.len = true) : judge accepts c.wire = .good c := by
  have hwhole := c.length_wire.ge
  have hcell : cellCheck (c.wire.take 60) = read32 c.wire 60 := by rw [c.take_wire, c.read32_wire]
  have hgood := judge_of_good (k := c.kind) (by omega) c.headerCheck_wire hwhole hcell rfl hlength haccepts
  rwa [cellOfBytes_wire] at hgood

end Wire

/-! ### The payloads of responses and notices (R142, R159, R161) -/

theorem Response.payloadBytes_eq_responseBytes (r : Response) : r.payloadBytes = responseBytes r := by
  have hstatus : r.status.code = statusByte r.status := by cases r.status <;> rfl
  rw [Response.payloadBytes, hstatus]
  rfl

theorem length_responseBytes (r : Response) : (responseBytes r).length = 10 + r.data.length := by
  simp only [responseBytes, be32, List.length_append, List.length_cons, List.length_nil]

/-- R159: the kind code and the kind fields of each kind. -/
theorem NoticeBody.fields_eq_kindFields (body : NoticeBody) :
    BitVec.ofNat 8 body.kindCode = (kindFields body).1 ∧ body.fields = (kindFields body).2 := by
  cases body with
  | resetDone cause => cases cause <;> exact ⟨rfl, rfl⟩
  | planSwapped bank mode cycle => cases bank <;> cases mode <;> exact ⟨rfl, rfl⟩
  | excursionDone bank cause => cases bank <;> cases cause <;> exact ⟨rfl, rfl⟩
  | schedHalted last abandoned cut => exact ⟨rfl, rfl⟩
  | flowViolation index flowId reason value => cases reason <;> exact ⟨rfl, rfl⟩
  | portState port state cause => cases state <;> cases cause <;> exact ⟨rfl, rfl⟩
  | trunkState up => exact ⟨rfl, rfl⟩

theorem Notice.payloadBytes_eq_noticeBytes (n : Notice) : n.payloadBytes = noticeBytes n := by
  obtain ⟨hcode, hfields⟩ := n.body.fields_eq_kindFields
  rw [Notice.payloadBytes, hcode, hfields]
  rfl

theorem length_noticeBytes (n : Notice) : (noticeBytes n).length = 8 + n.body.fields.length := by
  rw [← Notice.payloadBytes_eq_noticeBytes]
  simp only [Notice.payloadBytes, be32, List.length_append, List.length_cons, List.length_nil]

theorem NoticeBody.length_fields_le (body : NoticeBody) : body.fields.length ≤ 10 := by
  cases body <;> simp [NoticeBody.fields, be16, be32]

/-! ### Multi-byte fields (R158: most significant byte first) -/

theorem number_be16 (x : BitVec 16) : number (be16 x) 0 2 = x.toNat := by
  refine (number_eq_foldl (be16 x)).trans ?_
  simp only [be16, List.foldl, BitVec.extractLsb'_toNat, Nat.shiftRight_eq_div_pow]
  omega

theorem number_be24 (x : BitVec 24) : number (be24 x) 0 3 = x.toNat := by
  refine (number_eq_foldl (be24 x)).trans ?_
  simp only [be24, List.foldl, BitVec.extractLsb'_toNat, Nat.shiftRight_eq_div_pow]
  omega

theorem number_be32 (x : Word32) : number (be32 x) 0 4 = x.toNat := by
  refine (number_eq_foldl (be32 x)).trans ?_
  simp only [be32, List.foldl, BitVec.extractLsb'_toNat, Nat.shiftRight_eq_div_pow]
  omega

/-- Settles O21: the bytes of a cell and their reading, the payloads of responses and notices, then the codes. -/
theorem cellsSurviveTheWire : Obligations.CellsSurviveTheWire := by
  refine ⟨fun c => ?_, fun c accepts haccepts hidle hother => ⟨c.length_wire, ?_⟩, fun r hdata => ?_, fun n => ?_,
    fun x => ⟨rfl, number_be16 x⟩, fun x => ⟨rfl, number_be24 x⟩, fun x => ⟨rfl, number_be32 x⟩,
    rfl, rfl, rfl, rfl, rfl,
    rfl, rfl, rfl, rfl, rfl, rfl⟩
  · rw [← c.headerBytes_eq_headerOf]
    rfl
  · exact judge_wire c haccepts (lengthAllowed_iff.mpr ⟨hidle, hother⟩)
  · have hlen := length_responseBytes r
    refine ⟨rfl, rfl, rfl, Nat.mod_eq_of_lt (by omega), ?_⟩
    rw [Response.cell, r.payloadBytes_eq_responseBytes, Payload.toList_ofBytes_of_le (by omega), hlen, Nat.sub_add_eq]
  · have hlen := length_noticeBytes n
    have hfields := n.body.length_fields_le
    refine ⟨rfl, rfl, rfl, hlen ▸ Nat.mod_eq_of_lt (by omega), ?_⟩
    rw [Notice.cell, n.payloadBytes_eq_noticeBytes, Payload.toList_ofBytes_of_le (by omega)]

end Sys2Proof.Machine
end

section
/-! PROOFS. The data cells that the forwarder takes (R134 to R136), and the one counter that each taken cell raises (R128,
R139). -/

namespace Sys2Proof.Machine

open Sys2Proof.Claims

/-! ### Data cells and misdirected cells (R134 to R136) -/

section Data

variable {s : State} {c : Cell} {i : FlowIndex}

theorem State.forward_of_data (hkind : c.kind = .data) : s.forward c = s.forwardData c := by
  simp only [State.forward, hkind]

/-- R136. -/
theorem State.forward_of_misdirected (hkind : c.kind = .response ∨ c.kind = .notice) :
    s.forward c = s.setDf { s.df with misdirected := satAdd s.df.misdirected 1 } := by
  rcases hkind with hkind | hkind <;> simp only [State.forward, hkind]

/-- R135: no valid record carries the flow ID. -/
theorem State.forwardData_of_miss (h : lookupFlow s.flows c.flowId = none) :
    s.forwardData c = s.setDf { s.df with dataUnmatched := satAdd s.df.dataUnmatched 1 } := by
  simp only [State.forwardData, h]

/-- R134: the mask names some port. -/
theorem State.forwardData_of_mask (h : lookupFlow s.flows c.flowId = some i) (hmask : s.flows[i].terms.mask ≠ 0#4) :
    s.forwardData c =
      (s.setPorts (Vector.ofFn fun p : PortId =>
        if s.flows[i].terms.mask.getLsbD p.val = true then offered s.ports[p] c else s.ports[p])).setDf
        { s.df with dataForwarded := satAdd s.df.dataForwarded 1 } := by
  simp only [State.forwardData, h, if_neg hmask, State.offerPorts_eq_offered]

/-- R135: the mask names no port. -/
theorem State.forwardData_of_empty_mask (h : lookupFlow s.flows c.flowId = some i)
    (hmask : s.flows[i].terms.mask = 0#4) :
    s.forwardData c = s.setDf { s.df with dataWithoutPorts := satAdd s.df.dataWithoutPorts 1 } := by
  simp only [State.forwardData, h, if_pos hmask]

/-- Settles O34: a data cell that a valid record claims, by the record's mask; a data cell of no valid record; a response
or a notice. -/
theorem dataIsDeliveredByTheMask : Obligations.DataIsDeliveredByTheMask := by
  intro s c rest hphase hwait trunk
  have hexec : exec .downstreamForward s = .next ((s.setTrunk trunk).forward c) :=
    exec_downstreamForward_of_handoff hphase hwait
  refine ⟨fun i hkind hlaws hvalid hid => ?_, fun hkind hmiss => ?_, fun hkind => ?_⟩
  · have hfound : lookupFlow (s.setTrunk trunk).flows c.flowId = some i := lookupFlow_eq_some hlaws hvalid hid
    rw [hexec, State.forward_of_data hkind]
    exact ⟨fun hmask => congrArg Host.Outcome.next (State.forwardData_of_mask hfound hmask),
      fun hempty => congrArg Host.Outcome.next (State.forwardData_of_empty_mask hfound hempty)⟩
  · have hnone : lookupFlow (s.setTrunk trunk).flows c.flowId = none := lookupFlow_eq_none.mpr hmiss
    rw [hexec, State.forward_of_data hkind, State.forwardData_of_miss hnone]
    rfl
  · rw [hexec, State.forward_of_misdirected hkind]
    rfl

end Data

/-! ### The counted outcome of a taken cell (R128, R139) -/

section Outcomes

/-- A saturating counter below its largest value counts one more. -/
theorem satAdd_one_toNat {w : Nat} {counter : BitVec w} (h : counter ≠ BitVec.allOnes w) :
    (satAdd counter 1).toNat = counter.toNat + 1 := by
  have hne : counter.toNat ≠ 2 ^ w - 1 := fun e => h (BitVec.eq_of_toNat_eq (e.trans BitVec.toNat_allOnes.symm))
  rw [satAdd_toNat]
  omega

/-- R138: the cells that the seven counters of the forwarder have counted. -/
def Forwarder.total (d : Forwarder) : Nat :=
  d.commandsTaken.toNat + d.commandsRelayed.toNat + d.commandsUnrelayable.toNat + d.dataForwarded.toNat +
    d.dataWithoutPorts.toNat + d.dataUnmatched.toNat + d.misdirected.toNat

/-- R139: the outcomes counted so far, those of the forwarder and the commands dropped at the command queue. -/
def State.outcomes (s : State) : Nat :=
  s.df.total + s.me.commandDrops.toNat

/-- No counter of an outcome stands at its largest value. -/
structure State.Unsaturated (s : State) : Prop where
  commandsTaken : s.df.commandsTaken ≠ BitVec.allOnes 32
  commandsRelayed : s.df.commandsRelayed ≠ BitVec.allOnes 32
  commandsUnrelayable : s.df.commandsUnrelayable ≠ BitVec.allOnes 32
  dataForwarded : s.df.dataForwarded ≠ BitVec.allOnes 32
  dataWithoutPorts : s.df.dataWithoutPorts ≠ BitVec.allOnes 32
  dataUnmatched : s.df.dataUnmatched ≠ BitVec.allOnes 32
  misdirected : s.df.misdirected ≠ BitVec.allOnes 32
  commandDrops : s.me.commandDrops ≠ BitVec.allOnes 16

variable {s : State} (h : s.Unsaturated) (c : Cell)

include h

/-- R130: taken into the command queue, or dropped there. -/
theorem State.Unsaturated.outcomes_queueCommand : (s.queueCommand c).outcomes = s.outcomes + 1 := by
  unfold State.queueCommand
  split
  · simp only [State.outcomes, Forwarder.total, State.setDf_df, State.setDf_me, State.setMe_me,
      satAdd_one_toNat h.commandsTaken]
    omega
  · simp only [State.outcomes, State.setMe_df, State.setMe_me, satAdd_one_toNat h.commandDrops]
    omega

/-- R132: relayed, or unrelayable. -/
theorem State.Unsaturated.outcomes_relayCommand : (s.relayCommand c).outcomes = s.outcomes + 1 := by
  by_cases hrelay : ∃ p : PortId, s.ports[p].relay = true
  · simp only [State.relayCommand_of_relay hrelay, State.outcomes, Forwarder.total, State.setDf_df, State.setDf_me,
      State.setPorts_me, satAdd_one_toNat h.commandsRelayed]
    omega
  · have hnone : ∀ p : PortId, s.ports[p].relay = false := fun p => Bool.eq_false_iff.mpr fun hp => hrelay ⟨p, hp⟩
    simp only [State.relayCommand_of_no_relay hnone, State.outcomes, Forwarder.total, State.setDf_df, State.setDf_me,
      satAdd_one_toNat h.commandsUnrelayable]
    omega

/-- R134, R135: unmatched, without ports, or forwarded. -/
theorem State.Unsaturated.outcomes_forwardData : (s.forwardData c).outcomes = s.outcomes + 1 := by
  cases hfind : lookupFlow s.flows c.flowId with
  | none =>
    simp only [State.forwardData_of_miss hfind, State.outcomes, Forwarder.total, State.setDf_df, State.setDf_me,
      satAdd_one_toNat h.dataUnmatched]
    omega
  | some i =>
    by_cases hmask : s.flows[i].terms.mask = 0#4
    · simp only [State.forwardData_of_empty_mask hfind hmask, State.outcomes, Forwarder.total, State.setDf_df,
        State.setDf_me, satAdd_one_toNat h.dataWithoutPorts]
      omega
    · simp only [State.forwardData_of_mask hfind hmask, State.outcomes, Forwarder.total, State.setDf_df,
        State.setDf_me, State.setPorts_me, satAdd_one_toNat h.dataForwarded]
      omega

/-- R136. -/
theorem State.Unsaturated.outcomes_misdirect :
    (s.setDf { s.df with misdirected := satAdd s.df.misdirected 1 }).outcomes = s.outcomes + 1 := by
  simp only [State.outcomes, Forwarder.total, State.setDf_df, State.setDf_me, satAdd_one_toNat h.misdirected]
  omega

/-- R128: the outcome of a cell, by its kind and, for a command, by its node address. -/
theorem State.Unsaturated.outcomes_forward (hkind : c.kind ≠ .idle) : (s.forward c).outcomes = s.outcomes + 1 := by
  cases hk : c.kind with
  | idle => exact absurd hk hkind
  | data => exact State.forward_of_data hk ▸ h.outcomes_forwardData c
  | command =>
    by_cases haddr : c.payload[0] = 0#8 ∨ c.payload[0] = s.me.nodeAddr
    · exact State.forward_of_addressed hk haddr ▸ h.outcomes_queueCommand c
    · exact State.forward_of_not_addressed hk haddr ▸ h.outcomes_relayCommand c
  | response => exact State.forward_of_misdirected (.inl hk) ▸ h.outcomes_misdirect
  | notice => exact State.forward_of_misdirected (.inr hk) ▸ h.outcomes_misdirect

end Outcomes

/-- Settles O35: the two sides of a counter's largest value, then the outcome of the cell taken from the hand-off. -/
theorem eachTrunkCellHasOneCountedOutcome : Obligations.EachTrunkCellHasOneCountedOutcome := by
  refine ⟨fun w counter n => ⟨fun hbelow => ?_, fun habove => ?_⟩,
    fun s t c rest hphase hwait hkind hcounters hdrops hstep => ?_⟩
  · rw [satAdd_toNat]
    omega
  · rw [satAdd_toNat]
    omega
  · have hroom : (s.setTrunk { s.trunk with handoff := rest }).Unsaturated := by
      simp only [List.forall_mem_cons] at hcounters
      obtain ⟨htaken, hrelayed, hunrelayable, hforwarded, hwithout, hunmatched, hmisdirected, -⟩ := hcounters
      exact ⟨htaken, hrelayed, hunrelayable, hforwarded, hwithout, hunmatched, hmisdirected, hdrops⟩
    rw [exec_downstreamForward_of_handoff hphase hwait] at hstep
    obtain rfl := Host.Outcome.next.inj hstep
    exact hroom.outcomes_forward c hkind

end Sys2Proof.Machine
end

section
/-! PROOFS. The laws of the management engine and of the notice unit (R140, R142 to R144, R149, R163, R164): one lemma
for each operation that changes the engine or the notice unit, the bound of every answer's data, and every row. -/

namespace Sys2Proof.Machine

/-! ### The data of the answers (R142, R160) -/

@[simp] theorem length_be16 (x : BitVec 16) : (be16 x).length = 2 := rfl
@[simp] theorem length_be24 (x : BitVec 24) : (be24 x).length = 3 := rfl
@[simp] theorem length_be32 (x : Word32) : (be32 x).length = 4 := rfl
@[simp] theorem length_countBytes (n : Nat) : (countBytes n).length = 2 := rfl
@[simp] theorem length_lengthBytes (n : Nat) : (lengthBytes n).length = 3 := rfl
@[simp] theorem Answer.ok_data (data : List Byte) : (Answer.ok data).data = data := rfl
@[simp] theorem Answer.refuse_data (status : Status) (detail : Byte) : (Answer.refuse status detail).data = [] := rfl

/-- R159: a window entry is 7 bytes. -/
theorem WindowEntry.length_image (e : WindowEntry) : e.image.length = 7 := rfl

/-- R16, R152: PLAN_READ returns 5 bytes and 7 for each entry asked for. -/
theorem Bank.length_report_le (b : Bank) (first count : Nat) : (b.report first count).length ≤ 5 + 7 * count := by
  have hentries (es : List WindowEntry) : (es.flatMap WindowEntry.image).length = es.length * 7 := by
    simp [List.length_flatMap, WindowEntry.length_image]
  have htaken := List.length_take_le count (b.entries.toList.drop first)
  simp only [Bank.report, List.length_append, List.length_cons, List.length_nil, length_lengthBytes, hentries]
  omega

/-- R160: the head descriptor is reported in 3 bytes. -/
theorem ClassQueue.length_headReport (c : ClassQueue) : c.headReport.length = 3 := by
  unfold ClassQueue.headReport
  split
  · rfl
  · split <;> rfl

theorem ClassQueue.length_report (c : ClassQueue) (free : Nat) : (c.report free).length = 30 := by
  simp [ClassQueue.report, ClassQueue.length_headReport]

theorem FlowRecord.length_image (r : FlowRecord) : r.image.length = 40 := rfl

theorem State.length_statusReport (s : State) : s.statusReport.length = 22 := by
  simp [State.statusReport]

theorem State.length_identity (s : State) : s.identity.length = 20 := rfl

theorem Port.length_reportPart0 (pt : Port) : pt.reportPart0.length = 37 := rfl

theorem Port.length_reportPart1 (pt : Port) : pt.reportPart1.length = 18 := rfl

theorem Trunk.length_report (t : Trunk) : t.report.length = 29 := rfl

theorem State.length_forwarderReport (s : State) : s.forwarderReport.length = 29 := rfl

/-! ### The notice unit (R161 to R164) -/

section Notices

variable {s t : State} (h : ManagementLaws s)

include h

/-- The laws speak of the engine and the notice unit alone. -/
theorem ManagementLaws.of_eq (hme : t.me = s.me) (hnu : t.nu = s.nu) : ManagementLaws t where
  node := by rw [hme]; exact h.node
  commands := by rw [hme]; exact h.commands
  responses := by rw [hme]; exact h.responses
  data := by rw [hme]; exact h.data
  cache := by rw [hme]; exact h.cache
  notices := by rw [hnu]; exact h.notices
  resetDone := by rw [hnu]; exact h.resetDone

theorem ManagementLaws.setSched (c : Sched) : ManagementLaws (s.setSched c) := h.of_eq rfl rfl
theorem ManagementLaws.setQm (q : QueueManager) : ManagementLaws (s.setQm q) := h.of_eq rfl rfl
theorem ManagementLaws.setTrunk (trunk : Trunk) : ManagementLaws (s.setTrunk trunk) := h.of_eq rfl rfl
theorem ManagementLaws.setPins (pins : Pins) : ManagementLaws (s.setPins pins) := h.of_eq rfl rfl
theorem ManagementLaws.updPort (p : PortId) (f : Port → Port) : ManagementLaws (s.updPort p f) := h.of_eq rfl rfl

theorem ManagementLaws.updFlow (i : FlowIndex) (f : FlowRecord → FlowRecord) : ManagementLaws (s.updFlow i f) :=
  h.of_eq rfl rfl

/-- R162, R164: a posting is appended only where a place is free. -/
theorem ManagementLaws.after_post (body : NoticeBody) : ManagementLaws (s.post body) := by
  rcases s.post_cases body with ⟨-, heq⟩ | ⟨-, -, heq⟩ | ⟨-, hroom, heq⟩ <;> rw [heq]
  · exact h
  · exact { h with }
  · exact { h with notices := by simpa using hroom }

theorem ManagementLaws.after_postIf (b : Option NoticeBody) : ManagementLaws (s.postIf b) := by
  cases b with
  | none => exact h
  | some body => exact h.after_post body

theorem ManagementLaws.after_handOver (b : Option NoticeBody) : ManagementLaws (s.handOver b) :=
  { h with }

theorem ManagementLaws.after_takeHanded : ManagementLaws s.takeHanded := by
  rcases s.takeHanded_cases with ⟨body, -, heq⟩ | ⟨-, heq⟩ <;> rw [heq]
  · exact (h.after_handOver none).after_post body
  · exact h

/-- R115: a change of a port's state posts its notice. -/
theorem ManagementLaws.after_enterPort (p : PortId) (st : PortState) (cause : PortCause) :
    ManagementLaws (s.enterPort p st cause) :=
  (h.updPort p fun pt => pt.enter st).after_post _

end Notices

/-! ### The rows of the links (R114 to R118, R127) -/

section Links

variable {s : State} (h : ManagementLaws s) (p : PortId)

include h

theorem ManagementLaws.after_updPort_enterPort (f : Port → Port) (st : PortState) (cause : PortCause) :
    ManagementLaws ((s.updPort p f).enterPort p st cause) :=
  (h.updPort p f).after_enterPort p st cause

theorem ManagementLaws.after_receiveAt (bytes : List Byte) : ManagementLaws (s.receiveAt p bytes) := by
  unfold State.receiveAt
  split
  · split
    · unfold State.takeBad
      split
      · exact h.after_updPort_enterPort p _ _ _
      · exact h.of_eq rfl rfl
    · exact h.of_eq rfl rfl
  · exact h.of_eq rfl rfl
  · exact h
  · exact h

theorem ManagementLaws.after_gainSignal : ManagementLaws (s.gainSignal p) := by
  unfold State.gainSignal
  split
  · exact h.after_updPort_enterPort p _ _ _
  all_goals exact h.of_eq rfl rfl

theorem ManagementLaws.after_loseSignal : ManagementLaws (s.loseSignal p) := by
  unfold State.loseSignal
  split
  · exact h.after_updPort_enterPort p _ _ _
  all_goals exact h.of_eq rfl rfl

/-- R106: of the rows upstream, classification alone posts: the notice of a violation. -/
theorem ManagementLaws.after_classifyNext : ManagementLaws (s.classifyNext p) := by
  unfold State.classifyNext
  split
  · exact h
  · next c t _ =>
    rcases s.classify_cases p c t with ⟨-, heq⟩ | ⟨i, -, -, -, heq⟩ | ⟨i, -, -, -, heq⟩ <;> rw [heq]
    · exact h.of_eq rfl rfl
    · exact h.of_eq rfl rfl
    · have hposted : ManagementLaws (s.measureFlow i c t).1 :=
        (h.updFlow i fun r => r.afterArrival i t).after_postIf _
      exact hposted.of_eq rfl rfl

theorem ManagementLaws.after_changeTrunkSignal (up : Bool) : ManagementLaws (s.changeTrunkSignal up) := by
  unfold State.changeTrunkSignal
  split
  · exact h
  · exact (h.setTrunk _).after_post _

end Links

/-! ### The command queue (R130, R143) -/

section Commands

variable {s : State} (h : ManagementLaws s)

include h

/-- R130, R143: a command is appended only where a place is free. -/
theorem ManagementLaws.after_queueCommand (c : Cell) : ManagementLaws (s.queueCommand c) := by
  unfold State.queueCommand
  split
  · next hroom => exact { h with commands := by simpa using hroom }
  · exact { h with }

/-- R128: of the forwarder's outcomes, the queueing of a command alone changes the engine. -/
theorem ManagementLaws.after_forward (c : Cell) : ManagementLaws (s.forward c) := by
  unfold State.forward
  split
  · split
    · exact h.after_queueCommand c
    · unfold State.relayCommand
      split <;> exact h.of_eq rfl rfl
  · unfold State.forwardData
    split
    · exact h.of_eq rfl rfl
    · split <;> exact h.of_eq rfl rfl
  · exact h.of_eq rfl rfl
  · exact h.of_eq rfl rfl
  · exact h

theorem ManagementLaws.after_forwardNext : ManagementLaws s.forwardNext := by
  unfold State.forwardNext
  split
  · exact h
  · next c rest _ =>
    exact (h.setTrunk { s.trunk with handoff := rest }).after_forward c

/-- R145: the oldest command leaves its queue. -/
theorem ManagementLaws.after_taken {c : Command} {rest : List Command} (hc : s.me.commands = c :: rest) :
    ManagementLaws (s.taken rest) :=
  have hlen : (c :: rest).length ≤ 4 := hc ▸ h.commands
  { h with commands := (Nat.le_succ _).trans hlen }

end Commands

/-! ### The slot start (R41 to R49, R162) -/

section Slot

variable {s : State} (h : ManagementLaws s)

include h

/-- R42: a response or a notice that is sent leaves its queue. -/
theorem ManagementLaws.after_send (src : Source) : ManagementLaws (s.send src) := by
  rcases s.send_cases src with ⟨k, d, ds, -, -, heq⟩ | ⟨r, rest, -, hr, heq⟩ | ⟨n, rest, -, hn, heq⟩ | heq <;> rw [heq]
  · exact h.of_eq rfl rfl
  · have hlen : (r :: rest).length ≤ 8 := hr ▸ h.responses
    have hdata : ∀ x ∈ r :: rest, x.data.length ≤ 40 := hr ▸ h.data
    exact { h with
      responses := (Nat.le_succ _).trans hlen
      data := fun x hx => hdata x (List.mem_cons_of_mem r hx) }
  · have hlen : (n :: rest).length ≤ 16 := hn ▸ h.notices
    exact { h with notices := (Nat.le_succ _).trans hlen }
  · exact h.of_eq rfl rfl

theorem ManagementLaws.after_serve (kind : SlotKind) : ManagementLaws (s.serve kind) := by
  rcases s.serve_cases kind with ⟨src, -, heq⟩ | ⟨-, heq⟩ <;> rw [heq]
  · exact h.after_send src
  · exact (h.setQm _).after_send _

theorem ManagementLaws.after_startSlot : ManagementLaws s.startSlot :=
  ((h.setSched _).after_postIf _).after_serve _

theorem ManagementLaws.after_startSlotApart : ManagementLaws s.startSlotApart :=
  ((h.setSched _).after_handOver _).after_serve _

end Slot

/-! ### The resets (R140, R149, R168) -/

section Resets

variable {s t : State}

/-- R163, R168: every kind is enabled after a reset. -/
theorem resetDone_mask_reset : (0x7F#7).getLsbD 0 = true := by decide

/-- R140, R173: a reset ends with empty queues, an invalid cache and RESET_DONE; the node address is as it is given. -/
theorem ManagementLaws.endReset {node : Byte} {straps : BitVec 6} (hnode : node = nodeAddressOf straps) (s : State)
    (rate : Bool) (cause : ResetCause) (trunkTx : LinkOut) (portTx : PortId → LinkOut) :
    ManagementLaws (s.endReset node straps rate cause trunkTx portTx) where
  node := hnode
  commands := Nat.zero_le _
  responses := Nat.zero_le _
  data := nofun
  cache := nofun
  notices := Nat.le_add_left 1 15
  resetDone := resetDone_mask_reset

/-- R171, R172: while a reset is in progress the node address and the straps stand as they were. -/
theorem ManagementLaws.holdReset (hnode : s.me.nodeAddr = nodeAddressOf s.me.straps) (phase : Phase) :
    ManagementLaws (s.holdReset phase) where
  node := hnode
  commands := Nat.zero_le _
  responses := Nat.zero_le _
  data := nofun
  cache := nofun
  notices := Nat.zero_le _
  resetDone := resetDone_mask_reset

theorem ManagementLaws.after_settleReset (h : ManagementLaws s) : ManagementLaws s.settleReset := by
  unfold State.settleReset
  split
  · exact ManagementLaws.endReset h.node ..
  · exact h

variable {straps : BitVec 6} {rate : Bool}

theorem ManagementLaws.after_powerOnResetEnd (h : ManagementLaws s)
    (hx : exec (.powerOnResetEnd straps rate) s = .next t) : ManagementLaws t := by
  obtain rfl := Host.Outcome.next.inj hx
  split
  · unfold State.powerUpOver
    split
    · exact ManagementLaws.endReset rfl ..
    · exact h.of_eq rfl rfl
  all_goals exact h

theorem ManagementLaws.after_pinReset {ns : Nat} (h : ManagementLaws s) (hx : exec (.pinReset ns) s = .next t) :
    ManagementLaws t := by
  obtain rfl := Host.Outcome.next.inj hx
  split
  · exact h
  · unfold State.assertResetPin
    split
    · exact ManagementLaws.holdReset (h.setPins _).node _
    · exact h.of_eq rfl rfl

theorem ManagementLaws.after_pinResetEnd (h : ManagementLaws s) (hx : exec (.pinResetEnd straps rate) s = .next t) :
    ManagementLaws t := by
  obtain rfl := Host.Outcome.next.inj hx
  split
  · exact ManagementLaws.endReset rfl ..
  · exact h.of_eq rfl rfl
  · exact ManagementLaws.endReset rfl ..
  · exact h

end Resets

/-! ### The engine's answers (R142 to R149) -/

/-- R142, R148: what the engine needs of an owner's effect and answer: the laws are kept, the response queue is left
alone, and the answer has at most 40 data bytes. -/
structure OwnerLaws (s : State) (r : State × Answer) : Prop where
  laws : ManagementLaws s → ManagementLaws r.1
  responses : r.1.me.responses = s.me.responses
  data : r.2.data.length ≤ 40

section Owners

variable {s : State}

/-- R148: an owner outside the engine and the notice unit. -/
theorem OwnerLaws.of_eq {r : State × Answer} (hme : r.1.me = s.me) (hnu : r.1.nu = s.nu)
    (hdata : r.2.data.length ≤ 40) : OwnerLaws s r :=
  ⟨fun h => h.of_eq hme hnu, by rw [hme], hdata⟩

/-- R151: an answer that changes nothing. -/
theorem OwnerLaws.of_answer {a : Answer} (hdata : a.data.length ≤ 40) : OwnerLaws s (s, a) :=
  OwnerLaws.of_eq rfl rfl hdata

/-- R151: a refusal without data. -/
theorem OwnerLaws.refuse (status : Status) (detail : Byte) : OwnerLaws s (s, .refuse status detail) :=
  OwnerLaws.of_answer (Nat.zero_le _)

/-- R147: the checks refuse, or they have passed and the owner answers. -/
theorem OwnerLaws.checked {need : Nat} {checks : List (Nat × Bool)} {p : List Byte} {owner : State × Answer}
    (h : badOffset need checks p = none → OwnerLaws s owner) : OwnerLaws s (checked need checks p s owner) := by
  rcases checked_cases need checks p s owner with ⟨heq, hgood⟩ | ⟨off, heq⟩ <;> rw [heq]
  · exact h hgood
  · exact OwnerLaws.refuse _ _

variable (h : ManagementLaws s)

include h

/-- R142, R144: a record is appended where a place is free. -/
theorem ManagementLaws.after_appendResponse (hroom : s.me.responses.length < 8) {r : Response}
    (hdata : r.data.length ≤ 40) : ManagementLaws (s.appendResponse r) :=
  { h with
    responses := by simpa using hroom
    data := List.forall_mem_append.mpr ⟨h.data, by simpa using hdata⟩ }

/-- R148, R149: a record is appended and cached under its own sequence number. -/
theorem ManagementLaws.after_answer (hroom : s.me.responses.length < 8) (c : Command) {a : Answer}
    (hdata : a.data.length ≤ 40) : ManagementLaws (s.answer c a) :=
  { h.after_appendResponse hroom (r := s.record c a) hdata with
    cache := fun _ he => Option.some.inj he ▸ ⟨rfl, rfl, hdata⟩ }

/-- R145 to R150: a row of the engine keeps the laws when its owner does and answers within the bound. -/
theorem ManagementLaws.after_takeCommand {row : Option CommandCode} {run : List Byte → State → State × Answer}
    (hrun : ∀ p u, OwnerLaws u (run p u)) : ManagementLaws (s.takeCommand row run) := by
  rcases s.takeCommand_cases row run with heq | ⟨c, rest, -, -, hroom, hc, -, heq⟩ <;> rw [heq]
  · exact h
  · have htaken : ManagementLaws (s.taken rest) := h.after_taken hc
    rcases (s.taken rest).execute_cases c run with heq | ⟨e, he, heq⟩ | heq <;> refine heq ▸ ?_
    · exact htaken.after_appendResponse hroom (Nat.zero_le _)
    · obtain ⟨-, -, hdata⟩ := htaken.cache e he
      exact htaken.after_appendResponse hroom hdata
    · have howner := hrun c.params (s.taken rest)
      exact (howner.laws htaken).after_answer (howner.responses ▸ hroom) c howner.data

end Owners

/-! ### The 24 owners -/

section Run

variable (p : List Byte) (s : State)

theorem OwnerLaws.runEcho : OwnerLaws s (runEcho p s) := by
  unfold Machine.runEcho
  split
  · exact OwnerLaws.refuse _ _
  · next hlen => exact OwnerLaws.of_answer (not_lt.mp hlen)

theorem OwnerLaws.runIdentify : OwnerLaws s (runIdentify p s) :=
  OwnerLaws.of_answer (s.length_identity.trans_le (by decide))

theorem OwnerLaws.runStatus : OwnerLaws s (runStatus p s) := by
  refine OwnerLaws.checked fun _ => ⟨fun h => ?_, ?_, s.length_statusReport.trans_le (by decide)⟩
  · unfold State.clearDrops
    split
    · exact { h with }
    · exact h
  · unfold State.clearDrops
    split <;> rfl

theorem OwnerLaws.runPlanWrite : OwnerLaws s (runPlanWrite p s) := by
  unfold Machine.runPlanWrite
  split
  · exact OwnerLaws.refuse _ _
  · unfold State.planWrite
    split
    · exact OwnerLaws.of_eq rfl rfl (Nat.zero_le _)
    · exact OwnerLaws.refuse _ _

theorem OwnerLaws.runPlanLength : OwnerLaws s (runPlanLength p s) := by
  refine OwnerLaws.checked fun _ => ?_
  unfold State.planLength
  split
  · exact OwnerLaws.of_eq rfl rfl (by simp)
  · exact OwnerLaws.refuse _ _

/-- R16: at most 5 entries, so at most 40 bytes. -/
theorem OwnerLaws.runPlanRead : OwnerLaws s (runPlanRead p s) := by
  refine OwnerLaws.checked fun hgood => OwnerLaws.of_answer ?_
  obtain ⟨-, hchecks⟩ := badOffset_eq_none.mp hgood
  simp only [planReadChecks, List.forall_mem_cons, decide_eq_true_eq] at hchecks
  obtain ⟨-, -, ⟨hcount, -⟩, -⟩ := hchecks
  have hlen := (s.sched.bank (bankOf (par p 0))).length_report_le (par p 1).toNat (par p 2).toNat
  have hfive : (par p 2).toNat ≤ 5 := hcount
  exact hlen.trans (by omega)

theorem OwnerLaws.planInvalid (f : PlanFault × Nat) : OwnerLaws s (s, .planInvalid f) :=
  OwnerLaws.of_answer (by simp [Answer.planInvalid])

theorem OwnerLaws.runPlanCommit : OwnerLaws s (runPlanCommit p s) := by
  refine OwnerLaws.checked fun _ => ?_
  unfold State.planCommit
  split_ifs
  · exact OwnerLaws.refuse _ _
  · exact OwnerLaws.refuse _ _
  · split
    · exact OwnerLaws.planInvalid _ _
    · exact OwnerLaws.of_eq rfl rfl (by simp)

theorem OwnerLaws.runPlanWithdraw : OwnerLaws s (runPlanWithdraw p s) := by
  refine OwnerLaws.checked fun _ => ?_
  unfold State.planWithdraw
  split
  · exact OwnerLaws.of_eq rfl rfl (Nat.zero_le _)
  all_goals exact OwnerLaws.refuse _ _

theorem OwnerLaws.runSchedStart : OwnerLaws s (runSchedStart p s) := by
  refine OwnerLaws.checked fun _ => ?_
  unfold State.schedStart
  split
  · exact OwnerLaws.refuse _ _
  · split
    · exact OwnerLaws.planInvalid _ _
    · exact OwnerLaws.of_eq rfl rfl (by simp)

theorem OwnerLaws.runSchedStop : OwnerLaws s (runSchedStop p s) := by
  unfold Machine.runSchedStop
  split
  all_goals exact OwnerLaws.of_eq rfl rfl (Nat.zero_le _)

theorem OwnerLaws.runExcursionEnd : OwnerLaws s (runExcursionEnd p s) := by
  unfold Machine.runExcursionEnd
  split
  · exact OwnerLaws.of_eq rfl rfl (by simp)
  all_goals exact OwnerLaws.refuse _ _

theorem OwnerLaws.runFlowWrite : OwnerLaws s (runFlowWrite p s) := by
  refine OwnerLaws.checked fun _ => ?_
  unfold State.flowWrite
  split
  · exact OwnerLaws.refuse _ _
  · split
    · exact OwnerLaws.of_answer (by simp)
    · exact OwnerLaws.of_eq rfl rfl (by simp)

theorem OwnerLaws.runFlowRead : OwnerLaws s (runFlowRead p s) := by
  refine OwnerLaws.checked fun _ => ?_
  unfold State.flowRead
  split <;> exact OwnerLaws.of_eq rfl rfl (FlowRecord.length_image _).le

theorem OwnerLaws.runFlowClear : OwnerLaws s (runFlowClear p s) :=
  OwnerLaws.checked fun _ => OwnerLaws.of_eq rfl rfl (by simp [State.flowClear])

theorem OwnerLaws.runFlowRearm : OwnerLaws s (runFlowRearm p s) := by
  refine OwnerLaws.checked fun _ => ?_
  unfold State.flowRearm
  split
  · exact OwnerLaws.of_eq rfl rfl (by simp)
  · exact OwnerLaws.refuse _ _

theorem OwnerLaws.runClassSet : OwnerLaws s (runClassSet p s) := by
  refine OwnerLaws.checked fun _ => ?_
  unfold State.classSet
  split
  · exact OwnerLaws.of_answer (by simp)
  · exact OwnerLaws.of_eq rfl rfl (by simp)

theorem OwnerLaws.runClassRead : OwnerLaws s (runClassRead p s) := by
  refine OwnerLaws.checked fun _ => ?_
  unfold State.classRead
  split <;> exact OwnerLaws.of_eq rfl rfl ((ClassQueue.length_report _ _).trans_le (by decide))

theorem OwnerLaws.runClassFlush : OwnerLaws s (runClassFlush p s) :=
  OwnerLaws.checked fun _ => OwnerLaws.of_eq rfl rfl (by simp [State.classFlush])

theorem OwnerLaws.runRelaySet : OwnerLaws s (runRelaySet p s) :=
  OwnerLaws.checked fun _ => OwnerLaws.of_eq rfl rfl (by simp [State.relaySet])

/-- R115, R122: PORT_SET may post the change of the port's state. -/
theorem OwnerLaws.runPortSet : OwnerLaws s (runPortSet p s) := by
  refine OwnerLaws.checked fun _ => ⟨fun h => ?_, ?_, by simp [State.portSet]⟩
  · unfold State.portSet State.setPort
    split
    · exact h.of_eq rfl rfl
    · exact h.after_updPort_enterPort _ _ _ _
  · unfold State.portSet State.setPort
    split <;> simp

theorem OwnerLaws.runPortRead : OwnerLaws s (runPortRead p s) := by
  refine OwnerLaws.checked fun _ => ?_
  split
  · unfold State.readTrunk
    split
    · split <;> exact OwnerLaws.of_eq rfl rfl (s.length_forwarderReport.trans_le (by decide))
    · split <;> exact OwnerLaws.of_eq rfl rfl (s.trunk.length_report.trans_le (by decide))
  · unfold State.readStation
    split
    · split <;> exact OwnerLaws.of_eq rfl rfl ((Port.length_reportPart1 _).trans_le (by decide))
    · split <;> exact OwnerLaws.of_eq rfl rfl ((Port.length_reportPart0 _).trans_le (by decide))

/-- R163: whatever bit 0 of the byte holds, the flag of RESET_DONE is set. -/
theorem OwnerLaws.runNoticeSet : OwnerLaws s (runNoticeSet p s) :=
  OwnerLaws.checked fun _ =>
    ⟨fun h => { h with resetDone := by simp [State.noticeSet] }, rfl, by simp [State.noticeSet]⟩

/-- R156. -/
theorem OwnerLaws.runPartReset : OwnerLaws s (runPartReset p s) :=
  ⟨fun h => { h with }, rfl, Nat.zero_le _⟩

end Run

/-! ### Every row -/

section EveryRow

variable {s t u v : State}

/-- R172: a row that a running part takes, and one that is taken in another way during a reset. -/
theorem ManagementLaws.of_running (hu : ManagementLaws u) (hv : ManagementLaws v) :
    ManagementLaws (if s.running then u else v) := by
  split
  · exact hu
  · exact hv

theorem ManagementLaws.after_slotStart (h : ManagementLaws s) (hx : exec .slotStart s = .next t) :
    ManagementLaws t := by
  obtain rfl := Host.Outcome.next.inj hx
  exact ManagementLaws.of_running h.after_takeHanded.after_settleReset.after_startSlotApart h

theorem ManagementLaws.after_cycleBoundary (h : ManagementLaws s) (hx : exec .cycleBoundary s = .next t) :
    ManagementLaws t := by
  obtain rfl := Host.Outcome.next.inj hx
  split_ifs
  · exact h.after_takeHanded
  · exact h.after_startSlot
  · exact h
  · exact h

end EveryRow

/-- R140, R142 to R144, R149, R163, R164: every row keeps the laws of the engine and of the notice unit. -/
theorem ManagementLaws.after_exec (i : Instr) (s t : State) (h : ManagementLaws s) (hx : exec i s = .next t) :
    ManagementLaws t := by
  have hline (p : PortId) (b : Bool) : ManagementLaws (s.setStationLine p b) := h.setPins _
  have htrunk (b : Bool) : ManagementLaws (s.setTrunkLine b) := h.setPins _
  cases i <;> obtain rfl := Host.Outcome.next.inj hx
  case powerOnReset => exact ManagementLaws.holdReset h.node _
  case powerOnResetEnd => exact h.after_powerOnResetEnd hx
  case pinReset => exact h.after_pinReset hx
  case pinResetEnd => exact h.after_pinResetEnd hx
  case managementReset => exact h.after_settleReset
  case slotStart => exact h.after_slotStart hx
  case cycleBoundary => exact h.after_cycleBoundary hx
  case stationCellReceive p bytes => exact ManagementLaws.of_running (h.after_receiveAt p bytes) h
  case stationSignalGained p => exact ManagementLaws.of_running ((hline p true).after_gainSignal p) (hline p true)
  case stationSignalLost p => exact ManagementLaws.of_running ((hline p false).after_loseSignal p) (hline p false)
  case stationTransmit p => exact ManagementLaws.of_running (h.of_eq rfl rfl) h
  case upstreamClassification p => exact ManagementLaws.of_running (h.after_classifyNext p) h
  case cellAdmission p => exact ManagementLaws.of_running (h.of_eq (s.admitNext_me p) (s.admitNext_nu p)) h
  case trunkCellReceive bytes => exact ManagementLaws.of_running (h.of_eq rfl rfl) h
  case trunkSignalChange up =>
    exact ManagementLaws.of_running ((htrunk up).after_changeTrunkSignal up) (htrunk up)
  case downstreamForward => exact ManagementLaws.of_running h.after_forwardNext h
  case badCommand => exact h.after_takeCommand fun _ _ => OwnerLaws.refuse _ _
  case echo => exact h.after_takeCommand OwnerLaws.runEcho
  case identify => exact h.after_takeCommand OwnerLaws.runIdentify
  case status => exact h.after_takeCommand OwnerLaws.runStatus
  case planWrite => exact h.after_takeCommand OwnerLaws.runPlanWrite
  case planLength => exact h.after_takeCommand OwnerLaws.runPlanLength
  case planRead => exact h.after_takeCommand OwnerLaws.runPlanRead
  case planCommit => exact h.after_takeCommand OwnerLaws.runPlanCommit
  case planWithdraw => exact h.after_takeCommand OwnerLaws.runPlanWithdraw
  case schedStart => exact h.after_takeCommand OwnerLaws.runSchedStart
  case schedStop => exact h.after_takeCommand OwnerLaws.runSchedStop
  case excursionEnd => exact h.after_takeCommand OwnerLaws.runExcursionEnd
  case flowWrite => exact h.after_takeCommand OwnerLaws.runFlowWrite
  case flowRead => exact h.after_takeCommand OwnerLaws.runFlowRead
  case flowClear => exact h.after_takeCommand OwnerLaws.runFlowClear
  case flowRearm => exact h.after_takeCommand OwnerLaws.runFlowRearm
  case classSet => exact h.after_takeCommand OwnerLaws.runClassSet
  case classRead => exact h.after_takeCommand OwnerLaws.runClassRead
  case classFlush => exact h.after_takeCommand OwnerLaws.runClassFlush
  case relaySet => exact h.after_takeCommand OwnerLaws.runRelaySet
  case portSet => exact h.after_takeCommand OwnerLaws.runPortSet
  case portRead => exact h.after_takeCommand OwnerLaws.runPortRead
  case noticeSet => exact h.after_takeCommand OwnerLaws.runNoticeSet
  case partReset => exact h.after_takeCommand OwnerLaws.runPartReset

/-- Settles O60, row by row. -/
theorem everyStepKeepsTheManagementLaws : Obligations.EveryStepKeepsTheManagementLaws :=
  fun _ _ hs h => step_keeps (P := ManagementLaws) (fun _ _ hu => hu.of_eq rfl rfl) ManagementLaws.after_exec hs h

end Sys2Proof.Machine
end

section
/-! PROOFS. The engine's answers (R141 to R156): the fields of a command, a short command, an unknown code, a duplicate,
the rows that wait, and the commands ECHO, IDENTIFY, NOTICE_SET and PART_RESET. -/

namespace Sys2Proof.Machine

open Sys2Proof.Claims

/-! ### The fields of a command (R141, R146) -/

section Fields

variable {c : Command}

/-- R141: a payload byte within the payload length. -/
theorem Command.getD_bytes_of_lt {i : Nat} (hi : i < 52) (h : i < c.len.toNat) :
    c.bytes.getD i 0#8 = c.payload[i] := by
  simp [Command.bytes, List.getD_eq_getElem?_getD, h, hi]

/-- R146: a byte past the payload length is absent, and read as 0. -/
theorem Command.getD_bytes_of_ge {i : Nat} (h : c.len.toNat ≤ i) : c.bytes.getD i 0#8 = 0#8 := by
  simp [Command.bytes, List.getD_eq_getElem?_getD, h]

/-- R146: the sequence number that a command's record echoes. -/
theorem Command.seq_eq_ite : c.seq = if 2 ≤ c.len.toNat then c.payload[1] else 0#8 := by
  split
  · next h => exact Command.getD_bytes_of_lt (by decide) h
  · next h => exact Command.getD_bytes_of_ge (by omega)

/-- R146: a short command has no code byte. -/
theorem Command.codeByte_of_short (h : c.len.toNat < 3) : c.codeByte = 0#8 :=
  Command.getD_bytes_of_ge (by omega)

end Fields

/-! ### The rows of the engine (R145, R152) -/

/-- R152: the catalogue of codes. -/
theorem forall_code_ne_iff (byte : Byte) : (∀ k : CommandCode, k.code ≠ byte) ↔ byte ∉ commandBytes := by
  have hcodes : commandBytes = CommandCode.catalogue.map CommandCode.code := rfl
  rw [hcodes, List.mem_map]
  exact ⟨fun h ⟨k, _, hk⟩ => h k hk, fun h k hk => h ⟨k, k.mem_catalogue, hk⟩⟩

/-- R152: the row of each of the 23 commands is the engine's taking of that command. -/
theorem exec_of_commandRows :
    ∀ r ∈ commandRows, ∃ run, ∀ s, exec r.1 s = .next (s.takeCommand (some r.2) run) := by
  simp only [commandRows, List.forall_mem_cons, List.not_mem_nil, false_imp_iff, implies_true, and_true]
  and_intros
  all_goals exact ⟨_, fun _ => rfl⟩

theorem exec_badCommand (s : State) : exec .badCommand s = .next (s.takeCommand none runBadCommand) :=
  rfl

/-- R145, R156: without a command, a free place or leave to take, the engine takes nothing. -/
theorem State.takeCommand_of_waiting {s : State} {row : Option CommandCode} {run : List Byte → State → State × Answer}
    (h : s.me.commands = [] ∨ 8 ≤ s.me.responses.length ∨ s.me.run ≠ .taking) : s.takeCommand row run = s := by
  rcases h with h | h | h
  · exact State.takeCommand_of_empty h
  all_goals
    refine State.takeCommand_of_not_mayTake (Bool.eq_false_iff.mpr fun hm => ?_)
    obtain ⟨-, htaking, hroom⟩ := State.mayTake_iff.mp hm
  · omega
  · exact h htaking

section Ready

variable {s : State} {c : Command} {rest : List Command} (h : Ready s c rest)

include h

theorem State.mayTake_of_ready : s.mayTake = true := by
  obtain ⟨hphase, hrun, hplaces, -⟩ := h
  exact State.mayTake_iff.mpr ⟨hphase, hrun, hplaces⟩

/-- R146, R150: a duplicate, under the row of its code or under BAD_COMMAND. -/
theorem State.takeCommand_eq_replayed {row : Option CommandCode} {run : List Byte → State → State × Answer}
    {e : CacheEntry} (hrow : c.row = row) (hlen : 3 ≤ c.len.toNat) (he : s.me.cache = some e) (hseq : e.seq = c.seq) :
    s.takeCommand row run =
      { s with me := { s.me with
        commands := rest, responses := s.me.responses ++ [{ e.record with replayed := true }] } } := by
  have hmay := State.mayTake_of_ready h
  obtain ⟨-, -, -, hcommands⟩ := h
  exact State.takeCommand_of_duplicate hmay hcommands hrow hlen he hseq

/-- R146: a short command. -/
theorem exec_badCommand_of_short (hlen : c.len.toNat < 3) :
    exec .badCommand s =
      .next ((s.taken rest).appendResponse ((s.taken rest).record c (.refuse .badCommand 255#8))) := by
  have hmay := State.mayTake_of_ready h
  obtain ⟨-, -, -, hcommands⟩ := h
  rw [exec_badCommand, State.takeCommand_eq_execute hmay hcommands (Command.row_eq_none.mpr (.inl hlen))]
  exact congrArg Host.Outcome.next (State.execute_of_short hlen)

/-- R147: a command of unknown code. -/
theorem exec_badCommand_of_unknown (hlen : 3 ≤ c.len.toNat) (hcode : ∀ k : CommandCode, k.code ≠ c.codeByte)
    (hseq : s.me.cache.map CacheEntry.seq ≠ some c.seq) :
    exec .badCommand s = .next (refused s c rest .badCommand 0#8 []) := by
  have hmay := State.mayTake_of_ready h
  obtain ⟨-, -, -, hcommands⟩ := h
  rw [exec_badCommand, State.takeCommand_of_fresh hmay hcommands (Command.row_eq_none.mpr (.inr hcode)) hlen hseq]
  rfl

end Ready

/-- Settles O36: the fields of a command, the known codes, then the two commands of BAD_COMMAND. -/
theorem badCommandsAreAnswered : Obligations.BadCommandsAreAnswered := by
  refine ⟨fun c hlen => ⟨?_, ?_, ?_⟩, forall_code_ne_iff, fun s c rest hready hlen => ?_,
    fun s c rest hready hlen hcode hseq => exec_badCommand_of_unknown hready hlen hcode hseq⟩
  · exact Command.getD_bytes_of_lt (by decide) (by omega)
  · exact Command.getD_bytes_of_lt (by decide) (by omega)
  · exact List.drop_take
  · rw [exec_badCommand_of_short hready hlen, State.record, Command.codeByte_of_short hlen, Command.seq_eq_ite]
    rfl

/-- Settles O37: the command's own row, and BAD_COMMAND for an unknown code. -/
theorem duplicatesAreReplayed : Obligations.DuplicatesAreReplayed := by
  refine ⟨fun r hr s c rest e hready hlen hcode he hseq => ?_,
    fun s c rest e hready hlen hcode he hseq => congrArg Host.Outcome.next ?_⟩
  · obtain ⟨run, hexec⟩ := exec_of_commandRows r hr
    rw [hexec, State.takeCommand_eq_replayed hready (Command.row_eq_some.mpr ⟨hlen, hcode⟩) hlen he hseq]
  · exact State.takeCommand_eq_replayed hready (Command.row_eq_none.mpr (.inr hcode)) hlen he hseq

/-- Settles O38: the three reasons to wait, then the rows of another command than the oldest one. -/
theorem theEngineWaits : Obligations.TheEngineWaits := by
  refine ⟨fun r hr s => ?_, fun s => ⟨fun hwait => ?_, fun c rest k hcommands hlen hcode => ?_⟩⟩
  · obtain ⟨run, hexec⟩ := exec_of_commandRows r hr
    refine ⟨fun hwait => ?_, fun c rest hcommands hother => ?_⟩
    · rw [hexec, State.takeCommand_of_waiting hwait]
    · have hrow : c.row ≠ some r.2 := fun heq => by
        obtain ⟨hlen, hcode⟩ := Command.row_eq_some.mp heq
        exact hother.elim (fun hshort => by omega) (fun hne => hne hcode)
      rw [hexec, State.takeCommand_of_row_ne hcommands hrow]
  · exact congrArg Host.Outcome.next (State.takeCommand_of_waiting hwait)
  · have hrow : c.row ≠ none := by simp [Command.row_eq_some.mpr ⟨hlen, hcode⟩]
    exact congrArg Host.Outcome.next (State.takeCommand_of_row_ne hcommands hrow)

/-! ### ECHO and IDENTIFY (R153) -/

section Own

variable (s : State) {p : List Byte}

/-- R152: the bytes that one response carries. -/
theorem runEcho_of_le (h : p.length ≤ 40) : runEcho p s = (s, .ok p) :=
  if_neg (not_lt.mpr h)

theorem runEcho_of_gt (h : 40 < p.length) : runEcho p s = (s, .badParam 40) :=
  if_pos h

/-- R160: the 20 bytes of IDENTIFY. -/
theorem runIdentify_eq (p : List Byte) :
    runIdentify p s = (s, .ok [0x0C#8, 0x5D#8, 0x00#8, 0x24#8, s.me.nodeAddr, BitVec.ofNat 8 s.me.straps.toNat,
      if s.me.rate then 1#8 else 0#8, s.me.cause.code, 4#8, 8#8, 0x02#8, 0x00#8, 0x01#8, 0x00#8, 64#8, 4#8, 8#8, 16#8,
      32#8, 5#8]) := by
  rw [BitVec.ofNat_toNat]
  rfl

end Own

/-- Settles O40: the two lengths of ECHO, then the identity byte by byte. -/
theorem echoAndIdentifyAnswer : Obligations.EchoAndIdentifyAnswer := by
  refine ⟨fun s c rest hfresh => ⟨fun hlen => congrArg Host.Outcome.next ?_, fun hlen => congrArg Host.Outcome.next ?_⟩,
    fun s c rest hfresh => congrArg Host.Outcome.next ?_⟩
  · exact State.takeCommand_eq_refused hfresh (runEcho_of_le (s.taken rest) hlen)
  · exact State.takeCommand_eq_refused hfresh (runEcho_of_gt (s.taken rest) hlen)
  · rw [State.takeCommand_eq_refused hfresh (runIdentify_eq (s.taken rest) c.params)]
    change refused s c rest .ok 0#8 [_, _, _, _, _, _, _, s.me.cause.code, _, _, _, _, _, _, _, _, _, _, _, _] = _
    cases s.me.cause <;> rfl

/-! ### NOTICE_SET and PART_RESET (R156, R163) -/

/-- R163: bit 0 of the new mask is set, and the others are the byte's. -/
theorem getLsbD_noticeMask (byte : Byte) {n : Nat} (hn : n < 7) :
    (byte.setWidth 7 ||| 1#7).getLsbD n = (byte.getLsbD n || decide (n = 0)) := by
  simp [hn]

/-- R163: NOTICE_SET with its byte in range reaches the notice unit. -/
theorem runNoticeSet_of_inRange {p : List Byte} (hlen : 1 ≤ p.length) (hrange : (par p 0).toNat < 128) (s : State) :
    runNoticeSet p s = s.noticeSet (par p 0) := by
  have hbit : (par p 0).getLsbD 7 = false := by
    rw [BitVec.getLsbD, Nat.testBit_lt_two_pow hrange]
  refine checked_of_none ?_
  rw [badOffset_of_long hlen, hbit]
  rfl

/-- Settles O54: the mask bit by bit, then the engine that has answered PART_RESET. -/
theorem noticeSetAndPartResetAnswer : Obligations.NoticeSetAndPartResetAnswer := by
  refine ⟨fun s c rest hfresh hlen hrange =>
      ⟨(par c.params 0).setWidth 7 ||| 1#7, congrArg Host.Outcome.next ?_, ?_, fun n hlow hhigh => ?_⟩,
    fun s c rest hfresh => congrArg Host.Outcome.next ?_⟩
  · rw [State.takeCommand_eq_answer hfresh, runNoticeSet_of_inRange hlen hrange, BitVec.ofNat_toNat]
    rfl
  · rw [getLsbD_noticeMask (n := 0) _ (by decide)]
    exact Bool.or_true _
  · rw [getLsbD_noticeMask _ (by omega), decide_eq_false (by omega), Bool.or_false]
    rfl
  · rw [State.takeCommand_eq_answer hfresh]
    rfl

end Sys2Proof.Machine
end

section
/-! PROOFS. The refusals BAD_PARAM (R14, R16, R147): each command's checks are the ranges of its parameters, and the
first missing or bad byte is the one reported. -/

namespace Sys2Proof.Machine

open Sys2Proof.Claims

/-! ### The range of one parameter (R147, R158) -/

section Ranges

variable (p : List Byte) (i n : Nat)

theorem number_one : number p i 1 = (par p i).toNat := by
  simp [number, par]

theorem number_two : number p i 2 = (read16 p i).toNat := by
  rw [read16, toNat_append_eq]
  simp [number, List.range_succ, mul_comm]

/-- A parameter of one byte. -/
theorem inRange_byte (low : Nat) : inRange p (i, 1, low, n) = decide (low ≤ (par p i).toNat ∧ (par p i).toNat ≤ n) := by
  rw [inRange, number_one]

/-- A parameter of one byte that is at most `n`. -/
theorem atMost_eq_inRange : decide ((par p i).toNat ≤ n) = inRange p (i, 1, 0, n) := by
  simp [inRange_byte]

theorem isFlag_eq_inRange : isFlag (par p i) = inRange p (i, 1, 0, 1) :=
  atMost_eq_inRange p i 1

theorem isBelow_eq_inRange : isBelow (n + 1) (par p i) = inRange p (i, 1, 0, n) := by
  rw [← atMost_eq_inRange, isBelow]
  exact decide_eq_decide.mpr Nat.lt_succ_iff

/-- A parameter of two bytes that is at most `n`. -/
theorem atMost16_eq_inRange : decide ((read16 p i).toNat ≤ n) = inRange p (i, 2, 0, n) := by
  simp [inRange, number_two]

/-- R87: the join gap is not 0. -/
theorem atLeastOne_eq_inRange : decide (1 ≤ (par p i).toNat) = inRange p (i, 1, 1, 255) := by
  rw [inRange_byte]
  exact decide_eq_decide.mpr ⟨fun h => ⟨h, by omega⟩, And.left⟩

/-- R163: bit 7 of the byte is clear. -/
theorem bitSevenClear_eq_inRange : (!(par p i).getLsbD 7) = inRange p (i, 1, 0, 127) := by
  rw [← atMost_eq_inRange, Bool.eq_iff_iff, Bool.not_eq_true', decide_eq_true_eq, BitVec.getLsbD,
    Nat.testBit_eq_decide_div_mod_eq, decide_eq_false_iff_not]
  omega

end Ranges

/-! ### The checks of a command -/

/-- R147: the checks that a list of ranges asks for, in the order of the list. -/
def checksOf (p : List Byte) (ranges : List Range) : List (Nat × Bool) :=
  ranges.map fun r => (r.1, inRange p r)

theorem nil_eq_checksOf (p : List Byte) : [] = checksOf p [] :=
  rfl

theorem cons_eq_checksOf {p : List Byte} {r : Range} {ranges : List Range} {good : Bool} {checks : List (Nat × Bool)}
    (h : good = inRange p r) (hrest : checks = checksOf p ranges) : (r.1, good) :: checks = checksOf p (r :: ranges) := by
  rw [h, hrest]
  rfl

/-- R147: the offset reported is that of the first parameter out of its range. -/
theorem firstBad_checksOf (p : List Byte) (ranges : List Range) :
    firstBad (checksOf p ranges) = (ranges.find? (fun r => !inRange p r)).map Prod.fst := by
  induction ranges with
  | nil => rfl
  | cons r ranges ih =>
    rw [checksOf, List.map_cons, List.find?_cons]
    cases hr : inRange p r
    · rfl
    · exact ih

/-- R147: a command whose parameters need `need` bytes and stand in `ranges`. -/
def Judges (run : List Byte → State → State × Answer) (need : Nat) (ranges : List Range) : Prop :=
  ∀ p s, ∃ owner, run p s = checked need (checksOf p ranges) p s owner

section Judging

variable {run : List Byte → State → State × Answer} {need : Nat} {ranges : List Range}

theorem Judges.of_checks {checks : List Byte → List (Nat × Bool)} {owner : List Byte → State → State × Answer}
    (hrun : ∀ p s, run p s = checked need (checks p) p s (owner p s)) (h : ∀ p, checks p = checksOf p ranges) :
    Judges run need ranges :=
  fun p s => ⟨owner p s, h p ▸ hrun p s⟩

variable (h : Judges run need ranges) {p : List Byte} (s : State)

include h

theorem Judges.run_of_short (hlen : p.length < need) : run p s = (s, .badParam p.length) := by
  obtain ⟨owner, hrun⟩ := h p s
  rw [hrun, checked_of_some (badOffset_of_short hlen)]

theorem Judges.run_of_bad (hlen : need ≤ p.length) {bad : Range}
    (hbad : ranges.find? (fun r => !inRange p r) = some bad) : run p s = (s, .badParam bad.1) := by
  obtain ⟨owner, hrun⟩ := h p s
  have hoff : badOffset need (checksOf p ranges) p = some bad.1 := by
    rw [badOffset_of_long hlen, firstBad_checksOf, hbad]
    rfl
  rw [hrun, checked_of_some hoff]

end Judging

/-! ### The checks of each command (R152) -/

theorem judges_status : Judges runStatus 1 [(0, 1, 0, 1)] :=
  .of_checks (fun _ _ => rfl) fun p => cons_eq_checksOf (isFlag_eq_inRange p 0) (nil_eq_checksOf p)

theorem judges_planLength : Judges runPlanLength 2 [(0, 1, 0, 1), (1, 1, 0, 64)] :=
  .of_checks (fun _ _ => rfl) fun p =>
    cons_eq_checksOf (isFlag_eq_inRange p 0) <| cons_eq_checksOf (atMost_eq_inRange p 1 64) (nil_eq_checksOf p)

theorem judges_planCommit : Judges runPlanCommit 3 [(0, 1, 0, 1), (1, 1, 0, 1)] :=
  .of_checks (fun _ _ => rfl) fun p =>
    cons_eq_checksOf (isFlag_eq_inRange p 0) <| cons_eq_checksOf (isFlag_eq_inRange p 1) (nil_eq_checksOf p)

theorem judges_planWithdraw : Judges runPlanWithdraw 1 [(0, 1, 0, 1)] :=
  .of_checks (fun _ _ => rfl) fun p => cons_eq_checksOf (isFlag_eq_inRange p 0) (nil_eq_checksOf p)

theorem judges_schedStart : Judges runSchedStart 1 [(0, 1, 0, 1)] :=
  .of_checks (fun _ _ => rfl) fun p => cons_eq_checksOf (isFlag_eq_inRange p 0) (nil_eq_checksOf p)

/-- R87, R160. -/
theorem judges_flowWrite : Judges runFlowWrite 16 [(1, 2, 0, 4095), (3, 1, 0, 1), (4, 1, 0, 3), (5, 1, 0, 7),
    (6, 1, 0, 2), (7, 1, 0, 7), (8, 1, 1, 255), (14, 1, 0, 1), (15, 1, 0, 15)] :=
  .of_checks (fun _ _ => rfl) fun p =>
    cons_eq_checksOf (atMost16_eq_inRange p 1 4095) <| cons_eq_checksOf (isFlag_eq_inRange p 3) <|
    cons_eq_checksOf (isBelow_eq_inRange p 4 3) <| cons_eq_checksOf (isBelow_eq_inRange p 5 7) <|
    cons_eq_checksOf (isBelow_eq_inRange p 6 2) <| cons_eq_checksOf (isBelow_eq_inRange p 7 7) <|
    cons_eq_checksOf (atLeastOne_eq_inRange p 8) <| cons_eq_checksOf (isFlag_eq_inRange p 14) <|
    cons_eq_checksOf (isBelow_eq_inRange p 15 15) (nil_eq_checksOf p)

theorem judges_flowRead : Judges runFlowRead 2 [(1, 1, 0, 1)] :=
  .of_checks (fun _ _ => rfl) fun p => cons_eq_checksOf (isFlag_eq_inRange p 1) (nil_eq_checksOf p)

theorem judges_flowClear : Judges runFlowClear 1 [] :=
  .of_checks (fun _ _ => rfl) nil_eq_checksOf

theorem judges_flowRearm : Judges runFlowRearm 2 [(1, 1, 0, 1)] :=
  .of_checks (fun _ _ => rfl) fun p => cons_eq_checksOf (isFlag_eq_inRange p 1) (nil_eq_checksOf p)

/-- R71. -/
theorem judges_classSet : Judges runClassSet 6 [(0, 1, 0, 7), (1, 2, 0, 512), (3, 1, 0, 7), (5, 1, 0, 1)] :=
  .of_checks (fun _ _ => rfl) fun p =>
    cons_eq_checksOf (isBelow_eq_inRange p 0 7) <| cons_eq_checksOf (atMost16_eq_inRange p 1 512) <|
    cons_eq_checksOf (isBelow_eq_inRange p 3 7) <| cons_eq_checksOf (isFlag_eq_inRange p 5) (nil_eq_checksOf p)

theorem judges_classRead : Judges runClassRead 2 [(0, 1, 0, 7), (1, 1, 0, 1)] :=
  .of_checks (fun _ _ => rfl) fun p =>
    cons_eq_checksOf (isBelow_eq_inRange p 0 7) <| cons_eq_checksOf (isFlag_eq_inRange p 1) (nil_eq_checksOf p)

theorem judges_classFlush : Judges runClassFlush 1 [(0, 1, 0, 7)] :=
  .of_checks (fun _ _ => rfl) fun p => cons_eq_checksOf (isBelow_eq_inRange p 0 7) (nil_eq_checksOf p)

theorem judges_relaySet : Judges runRelaySet 1 [(0, 1, 0, 7)] :=
  .of_checks (fun _ _ => rfl) fun p => cons_eq_checksOf (isBelow_eq_inRange p 0 7) (nil_eq_checksOf p)

/-- R122. -/
theorem judges_portSet :
    Judges runPortSet 6 [(0, 1, 0, 3), (1, 1, 0, 1), (3, 1, 0, 1), (4, 1, 0, 1), (5, 1, 0, 7)] :=
  .of_checks (fun _ _ => rfl) fun p =>
    cons_eq_checksOf (isBelow_eq_inRange p 0 3) <| cons_eq_checksOf (isFlag_eq_inRange p 1) <|
    cons_eq_checksOf (isFlag_eq_inRange p 3) <| cons_eq_checksOf (isFlag_eq_inRange p 4) <|
    cons_eq_checksOf (isBelow_eq_inRange p 5 7) (nil_eq_checksOf p)

/-- R155: an absent part byte is read as 0, which is in range. -/
theorem judges_portRead : Judges runPortRead 2 [(0, 1, 0, 4), (1, 1, 0, 1), (2, 1, 0, 1)] :=
  .of_checks (fun _ _ => rfl) fun p =>
    cons_eq_checksOf (isBelow_eq_inRange p 0 4) <| cons_eq_checksOf (isFlag_eq_inRange p 1) <|
    cons_eq_checksOf (isFlag_eq_inRange p 2) (nil_eq_checksOf p)

/-- R163. -/
theorem judges_noticeSet : Judges runNoticeSet 1 [(0, 1, 0, 127)] :=
  .of_checks (fun _ _ => rfl) fun p => cons_eq_checksOf (bitSevenClear_eq_inRange p 0) (nil_eq_checksOf p)

/-- R152: the row of each command of fixed parameter length is the taking of that command, judged by its ranges. -/
theorem exec_of_parameterRanges :
    ∀ r ∈ parameterRanges, ∃ run, (∀ s, exec r.1 s = .next (s.takeCommand (some r.2.1) run)) ∧
      Judges run r.2.2.1 r.2.2.2 := by
  simp only [parameterRanges, List.forall_mem_cons, List.not_mem_nil, false_imp_iff, implies_true, and_true]
  exact ⟨⟨_, fun _ => rfl, judges_status⟩, ⟨_, fun _ => rfl, judges_planLength⟩, ⟨_, fun _ => rfl, judges_planCommit⟩,
    ⟨_, fun _ => rfl, judges_planWithdraw⟩, ⟨_, fun _ => rfl, judges_schedStart⟩, ⟨_, fun _ => rfl, judges_flowWrite⟩,
    ⟨_, fun _ => rfl, judges_flowRead⟩, ⟨_, fun _ => rfl, judges_flowClear⟩, ⟨_, fun _ => rfl, judges_flowRearm⟩,
    ⟨_, fun _ => rfl, judges_classSet⟩, ⟨_, fun _ => rfl, judges_classRead⟩, ⟨_, fun _ => rfl, judges_classFlush⟩,
    ⟨_, fun _ => rfl, judges_relaySet⟩, ⟨_, fun _ => rfl, judges_portSet⟩, ⟨_, fun _ => rfl, judges_portRead⟩,
    ⟨_, fun _ => rfl, judges_noticeSet⟩⟩

/-! ### PLAN_READ and PLAN_WRITE (R14, R16) -/

section Plan

variable {p : List Byte} {rest : List (Nat × Bool)} {off : Nat}

/-- R14, R16: the bank is judged first. -/
theorem firstBad_of_bank (h : 1 < (par p 0).toNat) : firstBad ((0, isFlag (par p 0)) :: rest) = some 0 := by
  rw [isFlag, decide_eq_false (not_le.mpr h), firstBad_bad]

/-- R14, R16: then the first index, the bank being in range. -/
theorem firstBad_of_first (hbank : (par p 0).toNat ≤ 1) (h : 63 < (par p 1).toNat) :
    firstBad ((0, isFlag (par p 0)) :: (1, isBelow 64 (par p 1)) :: rest) = some 1 := by
  rw [isFlag, isBelow, decide_eq_true hbank, decide_eq_false (by omega), firstBad_good, firstBad_bad]

/-- R14, R16: then what is judged of the count together with the first index. -/
theorem firstBad_of_in_range (hbank : (par p 0).toNat ≤ 1) (hfirst : (par p 1).toNat ≤ 63) :
    firstBad ((0, isFlag (par p 0)) :: (1, isBelow 64 (par p 1)) :: rest) = firstBad rest := by
  rw [isFlag, isBelow, decide_eq_true hbank, decide_eq_true (by omega), firstBad_good, firstBad_good]

/-- R16: a count above 5, or entries past the last place. -/
theorem firstBad_planReadChecks_of_count (hbank : (par p 0).toNat ≤ 1) (hfirst : (par p 1).toNat ≤ 63)
    (h : 5 < (par p 2).toNat ∨ 1 ≤ (par p 2).toNat ∧ 64 < (par p 1).toNat + (par p 2).toNat) :
    firstBad (planReadChecks p) = some 2 := by
  rw [planReadChecks, firstBad_of_in_range hbank hfirst, Config.entriesPerCommand, Config.entryPlaces,
    decide_eq_false (by omega), firstBad_bad]

/-- R14: a count of 0, a count above 5, or entries past the last place. -/
theorem firstBad_planWriteChecks_of_count (hbank : (par p 0).toNat ≤ 1) (hfirst : (par p 1).toNat ≤ 63)
    (h : (par p 2).toNat < 1 ∨ 5 < (par p 2).toNat ∨ 64 < (par p 1).toNat + (par p 2).toNat) :
    firstBad (planWriteChecks p) = some 2 := by
  rw [planWriteChecks, firstBad_of_in_range hbank hfirst, Config.entriesPerCommand, Config.entryPlaces,
    decide_eq_false (by omega), firstBad_bad]

theorem firstBad_planWriteChecks_eq_none (hbank : (par p 0).toNat ≤ 1) (hfirst : (par p 1).toNat ≤ 63)
    (hcount : 1 ≤ (par p 2).toNat ∧ (par p 2).toNat ≤ 5 ∧ (par p 1).toNat + (par p 2).toNat ≤ 64) :
    firstBad (planWriteChecks p) = none := by
  rw [planWriteChecks, firstBad_of_in_range hbank hfirst, Config.entriesPerCommand, Config.entryPlaces,
    decide_eq_true hcount, firstBad_good, firstBad_nil]

theorem planWriteBad_of_short (h : p.length < 3) : planWriteBad p = some p.length :=
  if_pos h

theorem planWriteBad_of_bad (hlen : 3 ≤ p.length) (h : firstBad (planWriteChecks p) = some off) :
    planWriteBad p = some off := by
  rw [planWriteBad, if_neg (not_lt.mpr hlen), h]

/-- R14: absent entry bytes are sought last. -/
theorem planWriteBad_of_absent (hlen : 3 ≤ p.length) (h : firstBad (planWriteChecks p) = none)
    (habsent : p.length < 3 + 7 * (par p 2).toNat) : planWriteBad p = some p.length := by
  rw [planWriteBad, if_neg (not_lt.mpr hlen), h]
  exact if_pos habsent

end Plan

section Refusals

variable {s : State} {c : Command} {rest : List Command} {off : Nat}

theorem exec_planRead_of_badOffset (hfresh : Fresh s c rest .planRead)
    (h : badOffset 3 (planReadChecks c.params) c.params = some off) :
    exec .planRead s = .next (refused s c rest .badParam (BitVec.ofNat 8 off) []) :=
  congrArg Host.Outcome.next (State.takeCommand_eq_refused hfresh (run := runPlanRead) (checked_of_some h))

theorem exec_planWrite_of_planWriteBad (hfresh : Fresh s c rest .planWrite) (h : planWriteBad c.params = some off) :
    exec .planWrite s = .next (refused s c rest .badParam (BitVec.ofNat 8 off) []) := by
  have hrun : runPlanWrite c.params (s.taken rest) = (s.taken rest, .badParam off) := by
    rw [runPlanWrite, h]
  exact congrArg Host.Outcome.next (State.takeCommand_eq_refused hfresh hrun)

end Refusals

/-- Settles O39: the commands judged by their ranges, then PLAN_READ and PLAN_WRITE check by check. -/
theorem badParametersAreRefused : Obligations.BadParametersAreRefused := by
  refine ⟨fun r hr s c rest hfresh => ?_, fun s c rest => ?_⟩
  · obtain ⟨run, hexec, hjudges⟩ := exec_of_parameterRanges r hr
    refine ⟨fun hlen => ?_, fun hlen bad hbad => ?_⟩
    · rw [hexec, State.takeCommand_eq_refused hfresh (hjudges.run_of_short (s.taken rest) hlen)]
      rfl
    · rw [hexec, State.takeCommand_eq_refused hfresh (hjudges.run_of_bad (s.taken rest) hlen hbad)]
      rfl
  · simp only [number_one]
    refine ⟨fun hfresh => ⟨fun hlen => ?_, fun hlen => ?_⟩, fun hfresh => ⟨fun hlen => ?_, fun hlen => ?_⟩⟩
    · exact exec_planRead_of_badOffset hfresh (badOffset_of_short hlen)
    · have hrefused {off : Nat} (h : firstBad (planReadChecks c.params) = some off) :=
        exec_planRead_of_badOffset hfresh ((badOffset_of_long hlen).trans h)
      exact ⟨fun hbank => hrefused (firstBad_of_bank hbank),
        fun hbank hfirst => hrefused (firstBad_of_first hbank hfirst),
        fun hbank hfirst hcount => hrefused (firstBad_planReadChecks_of_count hbank hfirst hcount)⟩
    · exact exec_planWrite_of_planWriteBad hfresh (planWriteBad_of_short hlen)
    · have hrefused {off : Nat} (h : firstBad (planWriteChecks c.params) = some off) :=
        exec_planWrite_of_planWriteBad hfresh (planWriteBad_of_bad hlen h)
      refine ⟨fun hbank => hrefused (firstBad_of_bank hbank),
        fun hbank hfirst => hrefused (firstBad_of_first hbank hfirst),
        fun hbank hfirst hcount => hrefused (firstBad_planWriteChecks_of_count hbank hfirst hcount),
        fun hbank hfirst hone hfive hplaces habsent => ?_⟩
      have hnone := firstBad_planWriteChecks_eq_none hbank hfirst ⟨hone, hfive, hplaces⟩
      exact exec_planWrite_of_planWriteBad hfresh (planWriteBad_of_absent hlen hnone habsent)

end Sys2Proof.Machine
end

section
/-! PROOFS. The ends of the resets (R140, R156, R168, R170 to R173): the part restarted, with the straps sampled or
kept. -/

namespace Sys2Proof.Machine

open Sys2Proof.Claims

section Restart

variable (s : State)

/-- R140: strap values 0 and 63 give node address 0, and any other its own value. -/
theorem nodeAddressOf_eq (straps : BitVec 6) :
    nodeAddressOf straps = if straps = 0#6 ∨ straps = 63#6 then 0#8 else BitVec.ofNat 8 straps.toNat := by
  unfold nodeAddressOf
  by_cases h63 : straps = 63#6
  · rw [if_pos h63, if_pos (.inr h63)]
  · by_cases h0 : straps = 0#6
    · rw [if_neg h63, if_pos (.inl h0), h0]
      rfl
    · rw [if_neg h63, if_neg (not_or.mpr ⟨h0, h63⟩), BitVec.ofNat_toNat]

/-- R120, R172: a cell that is cut short is not being sent. -/
theorem LinkOut.cutShort_ne_sending (tx : LinkOut) (w : List Byte) : tx.cutShort ≠ .sending w := by
  cases tx <;> nofun

/-- R173: every reset ends with the part restarted. -/
theorem restarted_endReset (node : Byte) (straps : BitVec 6) (rate : Bool) (cause : ResetCause) (trunkTx : LinkOut)
    {portTx : PortId → LinkOut} (hport : ∀ p w, portTx p ≠ .sending w) :
    restarted s s.pins node straps rate cause trunkTx (s.endReset node straps rate cause trunkTx portTx) := by
  have hports (p : PortId) : (s.endReset node straps rate cause trunkTx portTx).ports[p] =
      { Port.reset s.pins.stationLine[p] with tx := portTx p } := Vector.getElem_ofFn p.isLt
  refine ⟨rfl, rfl, rfl, rfl, rfl, rfl, fun p => ?_, fun p w => ?_, rfl, rfl, rfl, rfl⟩
  · rw [hports]
  · rw [hports]
    exact hport p w

/-- R140, R170: the end of a power-on or pin reset samples the straps. -/
theorem restarted_endPinReset (straps : BitVec 6) (rate : Bool) (cause : ResetCause) :
    restarted s { s.pins with resetN := true, straps := straps, rate := rate }
      (if straps = 0#6 ∨ straps = 63#6 then 0#8 else BitVec.ofNat 8 straps.toNat) straps rate cause .silent
      (s.endPinReset straps rate cause) := by
  rw [← nodeAddressOf_eq]
  exact restarted_endReset (s.setPins { s.pins with resetN := true, straps := straps, rate := rate }) _ _ _ _ _ nofun

/-- R156, R172: the management reset keeps the node address, the straps and the trunk's cell. -/
theorem restarted_managementReset :
    restarted s s.pins s.me.nodeAddr s.me.straps s.me.rate .management s.trunk.tx s.managementReset :=
  restarted_endReset s _ _ _ _ _ fun p => (s.ports[p].tx).cutShort_ne_sending

end Restart

/-! ### The rows -/

section Rows

variable {s : State} {straps : BitVec 6} {rate : Bool}

/-- R171: the 2 ms are over and the pin is released. -/
theorem exec_powerOnResetEnd_of_released (h : s.phase = .powerOnReset) (hpin : s.pins.resetN = true) :
    exec (.powerOnResetEnd straps rate) s = .next (s.endPinReset straps rate .powerOn) := by
  simp only [exec, execPowerOnResetEnd, h, State.powerUpOver, hpin, if_true]

/-- R171: the 2 ms are over and the pin is held. -/
theorem exec_powerOnResetEnd_of_held (h : s.phase = .powerOnReset) (hpin : s.pins.resetN = false) :
    exec (.powerOnResetEnd straps rate) s = .next (s.setPhase .powerOnHeld) := by
  simp only [exec, execPowerOnResetEnd, h, State.powerUpOver, hpin, Bool.false_eq_true, if_false]

theorem exec_powerOnResetEnd_of_prolonged (h : s.phase = .powerOnHeld) :
    exec (.powerOnResetEnd straps rate) s = .next s := by
  simp only [exec, execPowerOnResetEnd, h]

/-- R171: the release of a pin that alone prolonged a power-on reset. -/
theorem exec_pinResetEnd_of_prolonged (h : s.phase = .powerOnHeld) :
    exec (.pinResetEnd straps rate) s = .next (s.endPinReset straps rate .powerOn) := by
  simp only [exec, execPinResetEnd, h]

theorem exec_pinResetEnd_of_pinReset (h : s.phase = .pinReset) :
    exec (.pinResetEnd straps rate) s = .next (s.endPinReset straps rate .pin) := by
  simp only [exec, execPinResetEnd, h]

theorem State.managementResetDue_of_sent (h : s.phase = .running) (hrun : s.me.run = .resetSent) :
    s.managementResetDue = true := by
  simp [State.managementResetDue, State.running, h, hrun]

theorem exec_managementReset_of_sent (h : s.phase = .running) (hrun : s.me.run = .resetSent) :
    exec .managementReset s = .next s.managementReset :=
  congrArg Host.Outcome.next (if_pos (State.managementResetDue_of_sent h hrun))

/-- R156, R171: the posting that the reset discards is the notice unit's alone, so a posting taken first leaves no
trace. -/
theorem State.managementReset_takeHanded : s.takeHanded.managementReset = s.managementReset := by
  simp [State.managementReset, State.endReset]

/-- R156: a slot start makes a management reset that is due before its slot begins. -/
theorem exec_slotStart_of_sent (h : s.phase = .running) (hrun : s.me.run = .resetSent) :
    exec .slotStart s = .next s.managementReset.startSlotApart := by
  have hdue : s.takeHanded.managementResetDue = true :=
    State.managementResetDue_of_sent (s.takeHanded_phase.trans h) (by rw [State.takeHanded_me, hrun])
  rw [exec_slotStart_of_running h, State.settleReset, if_pos hdue, State.managementReset_takeHanded]

/-- R173: a slot start right after a management reset. -/
theorem exec_slotStart_managementReset : exec .slotStart s.managementReset = .next s.managementReset.startSlotApart :=
  exec_slotStart_of_slotting ⟨rfl, nofun, rfl⟩

end Rows

/-- Settles O6: the rows that end a power-on or a pin reset, by the phase and the reset pin. -/
theorem resetEndSamplesTheStraps : Obligations.ResetEndSamplesTheStraps := by
  intro s straps rate node pins
  refine ⟨fun hphase hpin => ?_, fun hphase hpin => ?_, fun hphase => ⟨?_, ?_⟩, fun hphase => ?_⟩
  · exact ⟨_, exec_powerOnResetEnd_of_released hphase hpin, restarted_endPinReset s straps rate .powerOn⟩
  · exact exec_powerOnResetEnd_of_held hphase hpin
  · exact exec_powerOnResetEnd_of_prolonged hphase
  · exact ⟨_, exec_pinResetEnd_of_prolonged hphase, restarted_endPinReset s straps rate .powerOn⟩
  · exact ⟨_, exec_pinResetEnd_of_pinReset hphase, restarted_endPinReset s straps rate .pin⟩

/-- Settles O7: the row, the part it restarts, and the slot start that finds the reset due. -/
theorem managementResetKeepsTheStraps : Obligations.ManagementResetKeepsTheStraps :=
  fun s hphase hrun => ⟨s.managementReset, exec_managementReset_of_sent hphase hrun, restarted_managementReset s,
    (exec_slotStart_of_sent hphase hrun).trans exec_slotStart_managementReset.symm⟩

end Sys2Proof.Machine
end

section
/-! PROOFS. What begins a power-on or pin reset, and what the rows do while one is in progress (R171, R172). -/

namespace Sys2Proof.Machine

open Sys2Proof.Claims

/-! ### The beginning of a reset -/

/-- R171, R172: a reset that begins holds every block, the ports and the trunk with their cells cut short. -/
theorem held_holdReset (s : State) (phase : Phase) : held s phase s.pins (s.holdReset phase) := by
  have hports (p : PortId) : (s.holdReset phase).ports[p] =
      { Port.reset s.ports[p].signal with tx := s.ports[p].tx.cutShort } := Vector.getElem_ofFn p.isLt
  refine ⟨rfl, rfl, rfl, rfl, rfl, rfl, hports, rfl, fun w => ?_, fun p w => ?_, rfl, rfl, rfl, rfl, rfl, rfl, rfl, rfl,
    rfl, rfl⟩
  · exact s.trunk.tx.cutShort_ne_sending w
  · rw [hports]
    exact (s.ports[p].tx).cutShort_ne_sending w

/-! ### The reset pin -/

section Pin

variable {s : State} {lowNs : Nat} {straps : BitVec 6} {rate : Bool}

theorem exec_pinReset_of_short (hlow : lowNs < 10000) : exec (.pinReset lowNs) s = .next s :=
  congrArg Host.Outcome.next (if_pos hlow)

theorem exec_pinReset_of_long (hlow : 10000 ≤ lowNs) : exec (.pinReset lowNs) s = .next s.assertResetPin :=
  congrArg Host.Outcome.next (if_neg hlow.not_gt)

/-- R171: with no reset in progress, the assertion begins a pin reset. -/
theorem State.assertResetPin_of_running (h : s.phase = .running) :
    s.assertResetPin = (s.setPins { s.pins with resetN := false }).holdReset .pinReset :=
  if_pos h

/-- R171: within a reset, the assertion is recorded. -/
theorem State.assertResetPin_of_phase_ne (h : s.phase ≠ .running) :
    s.assertResetPin = s.setPins { s.pins with resetN := false } :=
  if_neg h

/-- R171: the release of the pin before the 2 ms of a power-on reset are over. -/
theorem exec_pinResetEnd_of_powerOnReset (h : s.phase = .powerOnReset) :
    exec (.pinResetEnd straps rate) s = .next (s.setPins { s.pins with resetN := true }) := by
  simp only [exec, execPinResetEnd, h]

end Pin

/-- Settles O4: the supply in any state, and the reset pin from a running part. -/
theorem resetHoldsEveryBlock : Obligations.ResetHoldsEveryBlock := by
  refine ⟨fun s => ⟨s.holdReset .powerOnReset, rfl, held_holdReset s _⟩, fun s lowNs hphase hlow => ?_⟩
  have hexec := (exec_pinReset_of_long hlow).trans (congrArg _ (State.assertResetPin_of_running hphase))
  exact ⟨_, hexec, held_holdReset (s.setPins { s.pins with resetN := false }) .pinReset⟩

/-- Settles O5: a short pulse, a long one within a reset, and a release within the 2 ms. -/
theorem resetPinDuringAResetAndShortPulses : Obligations.ResetPinDuringAResetAndShortPulses := by
  refine ⟨fun s lowNs hlow => ?_, fun s lowNs hphase hlow => ?_, fun s straps rate hphase => ?_⟩
  · exact exec_pinReset_of_short hlow
  · exact (exec_pinReset_of_long hlow).trans (congrArg _ (State.assertResetPin_of_phase_ne hphase))
  · exact exec_pinResetEnd_of_powerOnReset hphase

/-! ### The other rows during a reset -/

section DuringReset

variable {s : State} (h : s.phase ≠ .running)

include h

/-- R172: a row that only a running part takes leaves the part as it is. -/
theorem next_ite_running_of_phase_ne (u : State) :
    (.next (if s.running then u else s) : Host.Outcome State Fault Refusal) = .next s := by
  rw [State.running_of_phase_ne h, if_neg Bool.false_ne_true]

/-- R156, R172: no management reset falls due within another reset. -/
theorem exec_managementReset_of_phase_ne : exec .managementReset s = .next s := by
  have hdue : s.managementResetDue = false := by
    rw [State.managementResetDue, State.running_of_phase_ne h, Bool.false_and]
  exact congrArg Host.Outcome.next (if_neg (Bool.eq_false_iff.mp hdue))

/-- R145, R172: the engine takes no command during a reset. -/
theorem State.takeCommand_of_phase_ne (row : Option CommandCode) (run : List Byte → State → State × Answer) :
    s.takeCommand row run = s := by
  refine State.takeCommand_of_not_mayTake (Bool.eq_false_iff.mpr fun hm => ?_)
  obtain ⟨hphase, -, -⟩ := State.mayTake_iff.mp hm
  exact h hphase

end DuringReset

/-- Settles O8: the rows of the slot, the links and the upstream path wait for a running part, and the rows of the
engine for its leave to take. -/
theorem nothingIsTakenDuringAReset : Obligations.NothingIsTakenDuringAReset := by
  intro s h
  have hlinks := next_ite_running_of_phase_ne h
  refine ⟨hlinks _, hlinks _, exec_managementReset_of_phase_ne h, hlinks _, ?_, fun bytes => hlinks _,
    fun p bytes => hlinks _, fun p => ⟨hlinks _, hlinks _, hlinks _⟩, fun r hr => ?_⟩
  · rw [exec_badCommand, State.takeCommand_of_phase_ne h]
  · obtain ⟨run, hexec⟩ := exec_of_commandRows r hr
    rw [hexec, State.takeCommand_of_phase_ne h]

end Sys2Proof.Machine
end

section
/-! PROOFS. One step (log entries 2 and 17): the row that a step takes, that every row answers a next state, and that no
row has a share in the queue of waiting rows. -/

namespace Sys2Proof.Machine

/-! ### The row that a step takes (log entry 2) -/

section Step

variable {s : State}

theorem step_of_pending_cons {i : Instr} {rest : List Instr} (h : s.pending = i :: rest) :
    step s = exec i { s with pending := rest } := by
  simp only [step, h]

theorem step_of_pending_nil (h : s.pending = []) : step s = .next s := by
  simp only [step, h]

end Step

/-- Settles O1: the queue has a row at its front, or it is empty. -/
theorem stepTakesTheFrontRow : Obligations.StepTakesTheFrontRow :=
  ⟨fun _ _ _ => step_of_pending_cons, fun _ => step_of_pending_nil⟩

/-! ### The resets (R156, R171) -/

/-- A row that answers in one of two ways, neither of which touches the queue. -/
theorem pending_ite {s u v : State} {c : Prop} [Decidable c] (hu : u.pending = s.pending)
    (hv : v.pending = s.pending) : (if c then u else v).pending = s.pending := by
  split
  · exact hu
  · exact hv

section Resets

variable {s u : State}

theorem State.settleReset_pending (s : State) : s.settleReset.pending = s.pending :=
  pending_ite rfl rfl

/-- R171: the end of the 2 ms changes the part in the first phase of a power-on reset alone. -/
theorem pending_of_powerOnResetEnd {straps : BitVec 6} {rate : Bool}
    (hx : exec (.powerOnResetEnd straps rate) s = .next u) : u.pending = s.pending := by
  obtain rfl := Host.Outcome.next.inj hx
  split
  · exact pending_ite rfl rfl
  all_goals rfl

/-- R171: a short pulse, a long one in a running part, and a long one within a reset. -/
theorem pending_of_pinReset {ns : Nat} (hx : exec (.pinReset ns) s = .next u) : u.pending = s.pending := by
  obtain rfl := Host.Outcome.next.inj hx
  exact pending_ite rfl (pending_ite rfl rfl)

/-- R171: the release of RESET_N, by phase. -/
theorem pending_of_pinResetEnd {straps : BitVec 6} {rate : Bool}
    (hx : exec (.pinResetEnd straps rate) s = .next u) : u.pending = s.pending := by
  obtain rfl := Host.Outcome.next.inj hx
  split <;> rfl

end Resets

/-! ### The two rows that start a slot (R21, R25) -/

section Slot

variable {s t : State}

theorem State.startSlot_pending (s : State) : s.startSlot.pending = s.pending := by
  rw [State.startSlot, State.serve_pending, State.beginSlot_pending]

theorem State.startSlotApart_pending (s : State) : s.startSlotApart.pending = s.pending := by
  rw [State.startSlotApart, State.serve_pending, State.beginSlotApart_pending]

theorem pending_of_slotStart (hx : exec .slotStart s = .next t) : t.pending = s.pending := by
  obtain rfl := Host.Outcome.next.inj hx
  refine pending_ite ?_ rfl
  rw [State.startSlotApart_pending, State.settleReset_pending, State.takeHanded_pending]

/-- R25, R167: the notice unit takes a waiting posting, a boundary falls due, or nothing happens. -/
theorem pending_of_cycleBoundary (hx : exec .cycleBoundary s = .next t) : t.pending = s.pending := by
  obtain rfl := Host.Outcome.next.inj hx
  exact pending_ite (pending_ite s.takeHanded_pending (pending_ite s.startSlot_pending rfl)) rfl

end Slot

/-! ### The rows of the engine (R145, R147) -/

/-- R148: a command whose owner leaves the queue of waiting rows alone leaves it alone. -/
theorem State.takeCommand_pending (s : State) {row : Option CommandCode} {run : List Byte → State → State × Answer}
    (hrun : ∀ p u, (run p u).1.pending = u.pending) : (s.takeCommand row run).pending = s.pending :=
  State.takeCommand_keeps (P := fun u => u.pending = s.pending) (fun _ _ h => h) (fun p u h => (hrun p u).trans h) rfl

/-- R147: parameters that fail leave the part alone, so the queue of waiting rows is as the owner leaves it. -/
theorem checked_pending {need : Nat} {checks : List (Nat × Bool)} {p : List Byte} {s : State} {owner : State × Answer}
    (h : owner.1.pending = s.pending) : (checked need checks p s owner).1.pending = s.pending :=
  checked_keeps (P := fun u => u.pending = s.pending) rfl h

/-! ### The owners of the commands (R148) -/

section Run

variable (p : List Byte) (s : State)

theorem runEcho_pending : (runEcho p s).1.pending = s.pending := by
  unfold runEcho; split <;> rfl

theorem runStatus_pending : (runStatus p s).1.pending = s.pending :=
  checked_pending (pending_ite rfl rfl)

theorem runPlanWrite_pending : (runPlanWrite p s).1.pending = s.pending := by
  unfold runPlanWrite
  split
  · rfl
  · unfold State.planWrite; split <;> rfl

theorem runPlanLength_pending : (runPlanLength p s).1.pending = s.pending :=
  checked_pending (by unfold State.planLength; split <;> rfl)

theorem runPlanCommit_pending : (runPlanCommit p s).1.pending = s.pending := by
  refine checked_pending ?_
  unfold State.planCommit
  split_ifs
  · rfl
  · rfl
  · split <;> rfl

theorem runPlanWithdraw_pending : (runPlanWithdraw p s).1.pending = s.pending :=
  checked_pending (by unfold State.planWithdraw; split <;> rfl)

theorem runSchedStart_pending : (runSchedStart p s).1.pending = s.pending := by
  refine checked_pending ?_
  unfold State.schedStart
  split
  · rfl
  · split <;> rfl

theorem runSchedStop_pending : (runSchedStop p s).1.pending = s.pending := by
  unfold runSchedStop; split <;> rfl

theorem runExcursionEnd_pending : (runExcursionEnd p s).1.pending = s.pending := by
  unfold runExcursionEnd; split <;> rfl

theorem runFlowWrite_pending : (runFlowWrite p s).1.pending = s.pending := by
  refine checked_pending ?_
  unfold State.flowWrite
  split
  · rfl
  · split <;> rfl

theorem runFlowRead_pending : (runFlowRead p s).1.pending = s.pending :=
  checked_pending (pending_ite rfl rfl)

theorem runFlowRearm_pending : (runFlowRearm p s).1.pending = s.pending :=
  checked_pending (by unfold State.flowRearm; split <;> rfl)

theorem runClassSet_pending : (runClassSet p s).1.pending = s.pending :=
  checked_pending (by unfold State.classSet; split <;> rfl)

theorem runClassRead_pending : (runClassRead p s).1.pending = s.pending :=
  checked_pending (pending_ite rfl rfl)

/-- R115, R122: the settings alone are replaced, or the port changes its state as well. -/
theorem runPortSet_pending : (runPortSet p s).1.pending = s.pending :=
  checked_pending (pending_ite rfl (State.enterPort_pending _ _ _ _))

theorem runPortRead_pending : (runPortRead p s).1.pending = s.pending := by
  refine checked_pending ?_
  split
  · unfold State.readTrunk; split <;> exact pending_ite rfl rfl
  · unfold State.readStation; split <;> exact pending_ite rfl rfl

end Run

/-! ### Every row (log entry 17) -/

/-- The part has no fault and no refusal of its own. -/
theorem exists_exec_eq_next (i : Instr) (s : State) : ∃ t, exec i s = .next t := by
  cases i <;> exact ⟨_, rfl⟩

/-- No row touches the queue of waiting rows: a reset, a slot start and an event of a link keep it as the operations of
their blocks do, and a row of the engine as its owner does. -/
theorem pending_of_exec {i : Instr} {s t : State} (hx : exec i s = .next t) : t.pending = s.pending := by
  cases i <;> obtain rfl := Host.Outcome.next.inj hx
  case powerOnReset => rfl
  case powerOnResetEnd => exact pending_of_powerOnResetEnd hx
  case pinReset => exact pending_of_pinReset hx
  case pinResetEnd => exact pending_of_pinResetEnd hx
  case managementReset => exact s.settleReset_pending
  case slotStart => exact pending_of_slotStart hx
  case cycleBoundary => exact pending_of_cycleBoundary hx
  case stationCellReceive p bytes => exact pending_ite (s.receiveAt_pending p bytes) rfl
  case stationSignalGained p => exact pending_ite ((s.setStationLine p true).gainSignal_pending p) rfl
  case stationSignalLost p => exact pending_ite ((s.setStationLine p false).loseSignal_pending p) rfl
  case stationTransmit p => exact pending_ite (s.updPort_pending p _) rfl
  case upstreamClassification p => exact pending_ite (s.classifyNext_pending p) rfl
  case cellAdmission p => exact pending_ite (s.admitNext_pending p) rfl
  case trunkCellReceive => exact pending_ite (s.setTrunk_pending _) rfl
  case trunkSignalChange up => exact pending_ite ((s.setTrunkLine up).changeTrunkSignal_pending up) rfl
  case downstreamForward => exact pending_ite s.forwardNext_pending rfl
  case badCommand => exact s.takeCommand_pending fun _ _ => rfl
  case echo => exact s.takeCommand_pending runEcho_pending
  case identify => exact s.takeCommand_pending fun _ _ => rfl
  case status => exact s.takeCommand_pending runStatus_pending
  case planWrite => exact s.takeCommand_pending runPlanWrite_pending
  case planLength => exact s.takeCommand_pending runPlanLength_pending
  case planRead => exact s.takeCommand_pending fun _ _ => checked_pending rfl
  case planCommit => exact s.takeCommand_pending runPlanCommit_pending
  case planWithdraw => exact s.takeCommand_pending runPlanWithdraw_pending
  case schedStart => exact s.takeCommand_pending runSchedStart_pending
  case schedStop => exact s.takeCommand_pending runSchedStop_pending
  case excursionEnd => exact s.takeCommand_pending runExcursionEnd_pending
  case flowWrite => exact s.takeCommand_pending runFlowWrite_pending
  case flowRead => exact s.takeCommand_pending runFlowRead_pending
  case flowClear => exact s.takeCommand_pending fun _ _ => checked_pending rfl
  case flowRearm => exact s.takeCommand_pending runFlowRearm_pending
  case classSet => exact s.takeCommand_pending runClassSet_pending
  case classRead => exact s.takeCommand_pending runClassRead_pending
  case classFlush => exact s.takeCommand_pending fun _ _ => checked_pending rfl
  case relaySet => exact s.takeCommand_pending fun _ _ => checked_pending rfl
  case portSet => exact s.takeCommand_pending runPortSet_pending
  case portRead => exact s.takeCommand_pending runPortRead_pending
  case noticeSet => exact s.takeCommand_pending fun _ _ => checked_pending rfl
  case partReset => exact s.takeCommand_pending fun _ _ => rfl

/-- Settles O2: every row answers, and row by row the queue stays. -/
theorem everyRowCompletesAndKeepsTheQueue : Obligations.EveryRowCompletesAndKeepsTheQueue := by
  intro i s
  obtain ⟨t, hx⟩ := exists_exec_eq_next i s
  exact ⟨t, hx, pending_of_exec hx⟩

end Sys2Proof.Machine
end
